-- ==== Sys2Proof/Word.lean ====
section
/-! DEFINITION. The word types of the AC48 and its plainest arithmetic: bytes of the command port and the weather line,
9-bit drive-bus characters, 12-bit conversions, the 32-bit array clock, and the numbers of TABLE 0.3. -/

namespace Sys2Proof

/-- A byte of the command port or of the weather line (Chapter 11). -/
abbrev Byte := BitVec 8

/-- A drive-bus character: bit 8 set marks an address character (R161). -/
abbrev Char9 := BitVec 9

/-- A raw conversion of an analog channel, 0 … 4 095 (section 5.1). -/
abbrev Raw := BitVec 12

/-- The array clock and its stamps: a wrapping 32-bit count of centiseconds (R60). -/
abbrev Clock := BitVec 32

/-- Dish numbers 0 … 47 (TABLE 0.3). -/
abbrev DishNo := Fin 48

/-- Slew group numbers 0 … 7 (TABLE 0.3). -/
abbrev GroupNo := Fin 8

/-- Wind cell numbers 0 … 7 (TABLE 0.3). -/
abbrev CellNo := Fin 8

/-- Drive-bus segment numbers 0 … 3 (TABLE 0.3). -/
abbrev SegNo := Fin 4

/-- Tag identifiers 0 … 63 (TABLE 0.3). -/
abbrev TagNo := Fin 64

/-- Analog channel numbers 0 … 15 (TABLE 0.3). -/
abbrev ChanNo := Fin 16

/-- Temperature zones 0 … 3 (TABLE 0.3). -/
abbrev ZoneNo := Fin 4

/-- Precipitation sensors 0 … 1 (TABLE 0.3). -/
abbrev SensorNo := Fin 2

/-- Every dish number in rising order. -/
def allDishes : List DishNo := List.finRange 48

/-- Every cell number in rising order. -/
def allCells : List CellNo := List.finRange 8

/-- Every group number in rising order. -/
def allGroups : List GroupNo := List.finRange 8

/-- Every tag identifier in rising order, which is slot order (R143). -/
def allTags : List TagNo := List.finRange 64

/-- ⌈a / b⌉: the quotient computed exactly and rounded up once (Introduction, "Arithmetic"). -/
def ceilDiv (a b : Nat) : Nat := (a + b - 1) / b

end Sys2Proof
end

