-- ==== Sys2Proof/Config.lean ====
section
/-! DEFINITION. What the AC48 fixes (its periods, limits and counts) and the free values: constants without a body, one for
each value the manual leaves open while the part goes on. -/

namespace Sys2Proof
namespace Config

/-- A scan round begins at each multiple of 25 cs (R85). -/
def scanPeriod : Nat := 25
/-- A poll round begins at each multiple of 10 cs (R163). -/
def pollPeriod : Nat := 10
/-- A heater period is 1 600 cs (R134). -/
def heaterPeriod : Nat := 1600
/-- One sixteenth of a heater period is 100 cs (Chapter 7). -/
def sixteenth : Nat := 100
/-- The quiet time of a cut dish (R14). -/
def quietTime : Nat := 2000
/-- The lead between the acceptance of a start and the group start instant (R34). -/
def groupLead : Nat := 50
/-- The largest start delay a SETPOINT carries (R166). -/
def maxDelay : Nat := 255
/-- The probe countdown loaded at a loss and at a failed probe (R173, R174). -/
def probeRounds : Nat := 20
/-- Consecutive failed transactions that lose a link (R173). -/
def lossFailures : Nat := 5
/-- Consecutive HELD or FAILED rounds that make a channel lost (R92). -/
def lostRounds : Nat := 8
/-- Good rounds that clear a cell's sensor lost flag (R103). -/
def trustRounds : Nat := 40
/-- Consecutive out-of-window (or in-window) rounds that change the reference mode (R89). -/
def referenceRounds : Nat := 3
/-- Good samples at or above the gust limit that qualify a gust (R102). -/
def gustRounds : Nat := 3
/-- Wet readings that turn melt weather on (R129). -/
def wetRounds : Nat := 4
/-- Over-run samples that set the overload-shed flag (R82). -/
def overRounds : Nat := 4
/-- Quiet samples that clear the overload-shed flag (R83). -/
def quietRounds : Nat := 40
/-- Entries of the request queue (TABLE 10.1). -/
def requestSlots : Nat := 4
/-- Outstanding requests and waiting answers together (R184). -/
def answerSlots : Nat := 8
/-- The largest feed capacity (R80). -/
def maxFeed : Nat := 4000
/-- Arrears saturate here (R139). -/
def maxArrears : Nat := 1023
/-- A 16-bit count saturates here (TABLE 5.2, TABLE 9.2). -/
def max16 : Nat := 65535
/-- The bad count of a channel saturates here (TABLE 5.2). -/
def maxBad : Nat := 255

/-- FREE VALUE (log entry 1): the n-th byte the manual leaves open. Read by the duty byte of a SET MELT MODE answer whose mode
is not FORCED, since R133 says the duty is read only in FORCED and gives no "duty taken" for the other modes. -/
opaque freeByte : Nat → Byte

/-- FREE VALUE (log entry 2): the position a rule reads for a dish whose observed status is empty. No rule gives one, and no
state reached from reset lets a rule read it. -/
opaque unobserved : DishNo → Int × Int

/-- FREE VALUE (log entry 9): whether an engine leaves its line idle for now before the visit at a drive address; the arguments are the
count of free values read, the segment and the address. R163 lets a visit begin at any site time of its round after
the end of the visit before it, and gives no rule for which. -/
opaque lineIdles : Nat → SegNo → Nat → Bool

/-- FREE VALUE (log entry 11): whether a run that has begun goes on at the present moment, by the count of free values read. R185 has
other events taken during a run and gives no rule for how long one lasts. -/
opaque runGoesOn : Nat → Bool

/-- FREE VALUE (log entry 9): whether the reply window of a dish's transaction stays open for now, by the count of free values read and the
dish. It closes 600 µs after the last character sent (R168), in the same centisecond or the next. -/
opaque windowStays : Nat → DishNo → Bool

/-- FREE VALUE (log entry 9): whether the conversion under way goes on for now, by the count of free values read. Conversions of 50 µs run
beside the other events of their centisecond (R85, R96), and no rule gives the order. -/
opaque conversionGoesOn : Nat → Bool

/-- FREE VALUE (log entry 9): the raw value that a conversion gives where no command brings one, by the count of free values read. It is
read from the input behind the pin (R85). -/
opaque sampled : Nat → Raw

end Config
end Sys2Proof
end

