-- ==== Sys2Proof/Syntax.lean ====
section
/-! DEFINITION. The commands of the AC48: one constructor per row of spec/opcode_table.json. A row that is the run of a host
request carries what its frame carries after the request code: the label and the parameter bytes (TABLE 11.1). -/

namespace Sys2Proof

/-- A request as it stands in the request queue: a taken frame without its length byte and check (TABLE 11.1, R183). -/
structure Request where
  code   : Byte
  label  : Byte
  params : List Byte
  deriving DecidableEq, Repr

/-- The commands, in the order of spec/opcode_table.json. -/
inductive Instr where
  /-- POWER_ON_RESET: the RESET input (R179). -/
  | powerOnReset
  /-- EXCHANGE_BEGIN: NSEL falls (R180). -/
  | exchangeBegin
  /-- EXCHANGE_END: NSEL rises after the complete bytes given were clocked in (R182). -/
  | exchangeEnd (bytes : List Byte)
  /-- DESCRIBE_DISH (R2). -/
  | describeDish (label : Byte) (params : List Byte)
  /-- RESUME_DISH (R7). -/
  | resumeDish (label : Byte) (params : List Byte)
  /-- RESTRAIN_DISH (R8). -/
  | restrainDish (label : Byte) (params : List Byte)
  /-- LOOK_UP_DISH (R20, R178). -/
  | lookUpDish (label : Byte) (params : List Byte)
  /-- WRITE_OFF_DISH (R17). -/
  | writeOffDish (label : Byte) (params : List Byte)
  /-- OPEN_GROUP (R40). -/
  | openGroup (label : Byte) (params : List Byte)
  /-- ADD_MEMBER (R41). -/
  | addMember (label : Byte) (params : List Byte)
  /-- DROP_MEMBER (R42). -/
  | dropMember (label : Byte) (params : List Byte)
  /-- AIM_GROUP (R43). -/
  | aimGroup (label : Byte) (params : List Byte)
  /-- START_GROUP (R45 to R47). -/
  | startGroup (label : Byte) (params : List Byte)
  /-- HALT_GROUP (R57). -/
  | haltGroup (label : Byte) (params : List Byte)
  /-- DISBAND_GROUP (R58). -/
  | disbandGroup (label : Byte) (params : List Byte)
  /-- LOOK_UP_GROUP (R59). -/
  | lookUpGroup (label : Byte) (params : List Byte)
  /-- SET_FEED (R80). -/
  | setFeed (label : Byte) (params : List Byte)
  /-- LOOK_UP_BUDGET (R84). -/
  | lookUpBudget (label : Byte) (params : List Byte)
  /-- SPOT_READING (R95). -/
  | spotReading (label : Byte) (params : List Byte)
  /-- LOOK_UP_CHANNELS (R99). -/
  | lookUpChannels (label : Byte) (params : List Byte)
  /-- SET_WIND_LIMITS (R107). -/
  | setWindLimits (label : Byte) (params : List Byte)
  /-- FORCE_STOW (R108). -/
  | forceStow (label : Byte) (params : List Byte)
  /-- RELEASE_STOW (R109). -/
  | releaseStow (label : Byte) (params : List Byte)
  /-- SET_SITE_CODE (R112). -/
  | setSiteCode (label : Byte) (params : List Byte)
  /-- LOOK_UP_CELL (R125). -/
  | lookUpCell (label : Byte) (params : List Byte)
  /-- SET_MELT_MODE (R133). -/
  | setMeltMode (label : Byte) (params : List Byte)
  /-- SET_MELT_LIMITS (R127). -/
  | setMeltLimits (label : Byte) (params : List Byte)
  /-- LOOK_UP_MELT (R142). -/
  | lookUpMelt (label : Byte) (params : List Byte)
  /-- PLACE_TAG (R145). -/
  | placeTag (label : Byte) (params : List Byte)
  /-- RELEASE_TAG (R152). -/
  | releaseTag (label : Byte) (params : List Byte)
  /-- LOOK_UP_TAG (R157). -/
  | lookUpTag (label : Byte) (params : List Byte)
  /-- LIST_TAGS (R158). -/
  | listTags (label : Byte) (params : List Byte)
  /-- SET_CLOCK (R61). -/
  | setClock (label : Byte) (params : List Byte)
  /-- READ_CONDITIONS (R189). -/
  | readConditions (label : Byte) (params : List Byte)
  /-- RESET_COORDINATION (R191). -/
  | resetCoordination (label : Byte) (params : List Byte)
  /-- UNKNOWN_REQUEST: the run of a request whose code names none (R186). -/
  | unknownRequest (code : Byte) (label : Byte) (params : List Byte)
  /-- SCAN_ROUND_START (R85). -/
  | scanRoundStart
  /-- CONVERSION_END: a conversion of channels 0 … 14 of the round ends with this raw value (R96). -/
  | conversionEnd (raw : Raw)
  /-- SCAN_ROUND_END: the conversion of channel 15 ends with this raw value (R85). -/
  | scanRoundEnd (raw : Raw)
  /-- SPOT_CONVERSION_END: a spot conversion ends with this raw value (R97). -/
  | spotConversionEnd (raw : Raw)
  /-- POLL_ROUND_START of one engine (R163). -/
  | pollRoundStart (seg : SegNo)
  /-- VISIT: an engine begins a transaction with an ACTIVE dish (R164). -/
  | visit (dish : DishNo)
  /-- PRESENCE_PROBE of a dish whose link is LOST (R174). -/
  | presenceProbe (dish : DishNo)
  /-- TRANSACTION_END: the characters taken inside the reply window, and whether one more had begun and never
  became whole, cut short by the close of the window or garbled (R168, R169; log entry 6). -/
  | transactionEnd (dish : DishNo) (chars : List Char9) (cutShort : Bool)
  /-- MEMBER_DEADLINE_EXPIRY (R51). -/
  | memberDeadlineExpiry (dish : DishNo)
  /-- STOW_DEADLINE_EXPIRY (R120). -/
  | stowDeadlineExpiry (dish : DishNo)
  /-- QUIET_TIME_END (R14). -/
  | quietTimeEnd (dish : DishNo)
  /-- HOLD_DOWN_EXPIRY (R105). -/
  | holdDownExpiry (cell : CellNo)
  /-- LINGER_EXPIRY (R130). -/
  | lingerExpiry
  /-- HEATER_BOUNDARY (R134). -/
  | heaterBoundary
  /-- WINDOW_OPEN (R135). -/
  | windowOpen (dish : DishNo)
  /-- WINDOW_CLOSE (R135). -/
  | windowClose (dish : DishNo)
  /-- WEATHER_BYTE: a character on the weather line with its stop bit (R110). -/
  | weatherByte (byte : Byte) (stopBit : Bool)
  deriving DecidableEq, Repr

end Sys2Proof
end

