-- ==== Sys2Proof/Machine/State.lean ====
section
/-! DEFINITION. Everything the AC48 keeps, as plain data, block by block in the manual's order, and its values after a power-on
reset. What the manual derives from other state (lock coverage, stow demand, stow blocked reason, the ICED copy, melt reservations,
the cell counts, window offsets, ATTN, the STOW line) has its one home in the state it follows and is computed from it in
Machine/Flags.lean (log entry 3). -/

namespace Sys2Proof
namespace Machine

/-! ### Chapter 1: the dish table -/

/-- A direction: azimuth and elevation in mdeg. -/
structure Angles where
  az : Int
  el : Int
  deriving DecidableEq, Repr

/-- One axis of a description: its limits, V_max and A_max (TABLE 1.1). -/
structure AxisRating where
  lower : Int
  upper : Int
  vMax  : Nat
  aMax  : Nat
  deriving DecidableEq, Repr

/-- The description part of a dish record, less the present field (TABLE 1.1). -/
structure Description where
  cell   : CellNo
  zone   : ZoneNo
  az     : AxisRating
  el     : AxisRating
  pDrive : Nat
  pMelt  : Nat
  stowEl : Int
  deriving DecidableEq, Repr

/-- TABLE 1.2: the description defaults. -/
def Description.default : Description where
  cell   := 0
  zone   := 0
  az     := ⟨-270000, 270000, 3000, 2000⟩
  el     := ⟨5000, 90000, 2000, 2000⟩
  pDrive := 10
  pMelt  := 0
  stowEl := 90000

/-- The motion states of a dish, in the order of TABLE 1.1. -/
inductive MotionState where
  | restrained | free | member | stopping | locked | stowQueued | stowing | stowed | cut | unreachable
  deriving DecidableEq, Repr

/-- Why a dish was cut, in the order of TABLE 1.1. -/
inductive CutReason where
  | overrun | falseArrival | driveFault | driveRefused
  deriving DecidableEq, Repr

/-- What an axis reports, in the order of TABLE 1.1 (R160). -/
inductive AxisState where
  | still | moving | arrived | fault
  deriving DecidableEq, Repr

/-- Drive fault codes, in the order of TABLE 1.1 (R160). -/
inductive DriveFault where
  | none | limit | overcurrent | brake | estop | localControl
  deriving DecidableEq, Repr

/-- The observed status: what the last good reply carried (R3). -/
structure Observed where
  position : Angles
  azState  : AxisState
  elState  : AxisState
  fault    : DriveFault
  heaterOn : Bool
  deriving DecidableEq, Repr

/-- Why a stow does not reach a dish, in the order of TABLE 1.1 (R5). -/
inductive BlockedReason where
  | restrained | lockedEl | cut | unreachable | stopping
  deriving DecidableEq, Repr

/-- A dish record (TABLE 1.1), less the copies of other blocks' state. quietStopped is the state R14 implies: an axis FAULT has
stopped the count and no later reply has restarted it. An empty observed status is none. -/
structure DishRecord where
  present      : Bool
  desc         : Description
  motion       : MotionState
  returnMark   : Bool
  group        : Option GroupNo
  targets      : Option Angles
  cutReason    : Option CutReason
  quiet        : Option Nat
  quietStopped : Bool
  observed     : Option Observed
  deriving DecidableEq, Repr

/-- R1: a dish record at power-on. -/
def DishRecord.reset : DishRecord where
  present      := false
  desc         := Description.default
  motion       := .restrained
  returnMark   := false
  group        := none
  targets      := none
  cutReason    := none
  quiet        := none
  quietStopped := false
  observed     := none

/-- Which of a dish's azimuth, elevation and melt are locked out (R4). -/
structure Coverage where
  az   : Bool
  el   : Bool
  melt : Bool
  deriving DecidableEq, Repr

/-! ### Chapter 3: slew groups -/

/-- Group states, in the order of TABLE 3.1. -/
inductive GroupState where
  | opened | moving | halting | arrived | partially | halted
  deriving DecidableEq, Repr

/-- Member sub-states, in the order of TABLE 3.2. -/
inductive SubState where
  | waiting | moving | arrived
  deriving DecidableEq, Repr

/-- Removal reasons, in the order of section 3.1. -/
inductive RemovalReason where
  | locked | stow | lost | overrun | falseArrival | driveFault | driveRefused
  deriving DecidableEq, Repr

/-- The scaled rates V′ and accelerations A′ of a member (R32). -/
structure Profile where
  azRate  : Nat
  azAccel : Nat
  elRate  : Nat
  elAccel : Nat
  deriving DecidableEq, Repr

/-- A member entry (TABLE 3.2). -/
structure Member where
  dish     : DishNo
  offsets  : Option Angles
  sub      : SubState
  clamped  : Bool
  profile  : Option Profile
  targets  : Option Angles
  start    : Option Nat
  deadline : Option Nat
  arrival  : Option Clock
  deriving DecidableEq, Repr

/-- A group record (TABLE 3.1); its id is its place in the group table. -/
structure Group where
  state        : GroupState
  target       : Angles
  members      : List Member
  removals     : List (DishNo × RemovalReason)
  startStamp   : Option Clock
  tMove        : Option Nat
  tG           : Option Nat
  startInstant : Option Nat
  deriving DecidableEq, Repr

/-! ### Chapter 4: the reservation table -/

/-- Kinds of a drive reservation, in the order of TABLE 4.1. -/
inductive ResKind where
  | slew | stow | stop | retained
  deriving DecidableEq, Repr

/-- A dish's drive reservation: level and kind; no kind when the level is 0 (TABLE 4.1). -/
structure DriveRes where
  level : Nat
  kind  : Option ResKind
  deriving DecidableEq, Repr

/-- A circuit's granted melt duty and melt rate (TABLE 4.1). -/
structure MeltGrant where
  duty : Nat
  rate : Nat
  deriving DecidableEq, Repr

/-- The items of TABLE 4.1 that are not kept per dish. -/
structure Feed where
  capacity  : Nat
  meltFloor : Nat
  pass2     : DishNo
  overload  : Bool
  overRun   : Nat
  quietRun  : Nat
  lMeas     : Option Nat
  lost      : Bool
  deriving DecidableEq, Repr

/-- R64: the reservation table at power-on. -/
def Feed.reset : Feed where
  capacity  := 0
  meltFloor := 4
  pass2     := 0
  overload  := false
  overRun   := 0
  quietRun  := 0
  lMeas     := none
  lost      := false

/-! ### Chapter 5: the sensor scan -/

/-- A converted value (TABLE 5.3): a number, or wet or dry for a precipitation sensor. -/
inductive Converted where
  | number (v : Int)
  | wetness (wet : Bool)
  deriving DecidableEq, Repr

/-- Status of a channel, in the order of TABLE 5.2. -/
inductive ChanStatus where
  | good | held | failed
  deriving DecidableEq, Repr

/-- A channel record (TABLE 5.2). -/
structure Channel where
  lastRaw : Option Raw
  value   : Option Converted
  status  : ChanStatus
  bad     : Nat
  age     : Nat
  lost    : Bool
  deriving DecidableEq, Repr

/-- R86: a channel record at power-on. -/
def Channel.reset : Channel where
  lastRaw := none
  value   := none
  status  := .failed
  bad     := 0
  age     := 0
  lost    := false

/-- Reference modes, in the order of TABLE 5.3a. -/
inductive RefMode where
  | normal | fault
  deriving DecidableEq, Repr

/-- The pending spot: the label of its request, its channel, and whether its conversion is under way or waiting (TABLE 5.3a). -/
structure Spot where
  label      : Byte
  chan       : ChanNo
  converting : Bool
  deriving DecidableEq, Repr

/-- What the one converter is converting (R96): nothing, the next channel of the round, the pending spot, or a spot that RESET
COORDINATION discarded while it was converting (R98). -/
inductive Converter where
  | idle | channel | spot | dropped
  deriving DecidableEq, Repr

/-- A scan round under way (R85): when it began, the channel it has reached, and the raw values converted so far. -/
structure Round where
  start : Nat
  chan  : ChanNo
  raws  : Vector Raw 16
  deriving DecidableEq, Repr

/-- What the sensor scan holds (TABLE 5.2, TABLE 5.3a), its converter, and the round under way. lastStart is the start of the
latest round, which R85's "at each multiple of 25 cs" implies; crossed says that the conversion under way began in an earlier
centisecond, which a spot's may (R96), and a round's never (R85). -/
structure Scan where
  channels  : Vector Channel 16
  mode      : RefMode
  outRun    : Nat
  inRun     : Nat
  spot      : Option Spot
  lastEnd   : Option Nat
  converter : Converter
  crossed   : Bool
  round     : Option Round
  lastStart : Option Nat
  deriving DecidableEq, Repr

/-- R86: the scan at power-on. -/
def Scan.reset : Scan where
  channels  := Vector.replicate 16 Channel.reset
  mode      := .normal
  outRun    := 0
  inRun     := 0
  spot      := none
  lastEnd   := none
  converter := .idle
  crossed   := false
  round     := none
  lastStart := none

/-! ### Chapter 6: wind cells and the stow controller -/

/-- Cell states, in the order of TABLE 6.1. -/
inductive CellState where
  | calm | watch | stow
  deriving DecidableEq, Repr

/-- A cell's reason set (TABLE 6.1). -/
structure Reasons where
  wind     : Bool
  gust     : Bool
  sensor   : Bool
  forced   : Bool
  external : Bool
  deriving DecidableEq, Repr

/-- A cell's five limits (TABLE 6.1, TABLE 6.3). -/
structure WindLimits where
  watch    : Nat
  stowMean : Nat
  gust     : Nat
  release  : Nat
  holdDown : Nat
  deriving DecidableEq, Repr

/-- A cell record (TABLE 6.1), less its three counts. -/
structure Cell where
  mean       : Nat
  last       : Option Nat
  gustRun    : Nat
  runHigh    : Option Nat
  peak       : Option Nat
  state      : CellState
  reasons    : Reasons
  holdDown   : Option Nat
  sensorLost : Bool
  goodRounds : Nat
  limits     : WindLimits
  deriving DecidableEq, Repr

/-- R100 and TABLE 6.3: a cell at power-on. -/
def Cell.reset : Cell where
  mean       := 0
  last       := none
  gustRun    := 0
  runHigh    := none
  peak       := none
  state      := .calm
  reasons    := ⟨false, false, false, false, false⟩
  holdDown   := none
  sensorLost := false
  goodRounds := 0
  limits     := ⟨120, 180, 250, 140, 120000⟩

/-- A stow move record (TABLE 6.2); its dish is its place in the table of records. -/
structure StowMove where
  time     : Nat
  margin   : Nat
  start    : Option Nat
  deadline : Option Nat
  deriving DecidableEq, Repr

/-- The weather-line pattern detector (TABLE 6.2). -/
inductive Detector where
  | disabled
  | sync (count : Nat)
  | code (matched : Nat)
  deriving DecidableEq, Repr

/-! ### Chapter 7: snow melting -/

/-- Melt modes, in the order of TABLE 7.1. -/
inductive MeltMode where
  | off | auto | forced
  deriving DecidableEq, Repr

/-- Window kinds, in the order of TABLE 7.1. -/
inductive WindowKind where
  | own | carried
  deriving DecidableEq, Repr

/-- An ON window (TABLE 7.1); an OFF window is none. -/
structure Window where
  opened : Nat
  closes : Nat
  kind   : WindowKind
  deriving DecidableEq, Repr

/-- A melt circuit record (TABLE 7.1), less the granted duty (kept by the reservation table) and the window offset (fixed by the
dish number). ownOpened is the state R136 implies: the period's own window has been opened. -/
structure Circuit where
  mode       : MeltMode
  forcedDuty : Nat
  demand     : Nat
  window     : Option Window
  ownOpened  : Bool
  arrears    : Nat
  iced       : Bool
  deriving DecidableEq, Repr

/-- R126: a circuit at power-on. -/
def Circuit.reset : Circuit where
  mode       := .off
  forcedDuty := 16
  demand     := 0
  window     := none
  ownOpened  := false
  arrears    := 0
  iced       := false

/-- A zone temperature and the status of the sample that brought it (TABLE 7.2). -/
structure Zone where
  temp   : Option Int
  status : ChanStatus
  deriving DecidableEq, Repr

/-- A precipitation sensor's latest reading (wet is true) and wet run (TABLE 7.2). -/
structure Precip where
  reading : Option Bool
  run     : Nat
  deriving DecidableEq, Repr

/-- The weather inputs of the melt controller (TABLE 7.2) and the instant of the latest heater boundary (R134). -/
structure MeltWeather where
  zones        : Vector Zone 4
  precip       : Vector Precip 2
  on           : Bool
  linger       : Option Nat
  lastBoundary : Option Nat
  deriving DecidableEq, Repr

/-- R126: the weather inputs at power-on. The status of a zone no sample has reached yet is log entry 4. -/
def MeltWeather.reset : MeltWeather where
  zones        := Vector.replicate 4 ⟨none, .failed⟩
  precip       := Vector.replicate 2 ⟨none, 0⟩
  on           := false
  linger       := none
  lastBoundary := none

/-- The site settings of TABLE 7.3, less the melt floor, which the reservation table keeps. -/
structure Settings where
  iceLimit      : Nat
  snowLinger    : Nat
  settleMargin  : Nat
  arrivalWindow : Nat
  watchFloor    : Int
  deriving DecidableEq, Repr

/-- TABLE 7.3: the power-on values. -/
def Settings.reset : Settings where
  iceLimit      := 240
  snowLinger    := 180000
  settleMargin  := 300
  arrivalWindow := 20
  watchFloor    := 30000

/-! ### Chapter 8: lockout tags -/

/-- Tag scopes, in the order of TABLE 8.1. -/
inductive Scope where
  | az | el | motion | melt | all
  deriving DecidableEq, Repr

/-- Tag states, in the order of TABLE 8.1. -/
inductive TagState where
  | stopping | held
  deriving DecidableEq, Repr

/-- A tag record (TABLE 8.1); its id is its slot. -/
structure Tag where
  holder : Nat
  dish   : DishNo
  scope  : Scope
  state  : TagState
  stamp  : Clock
  deriving DecidableEq, Repr

/-! ### Chapter 9: the drive bus engines -/

/-- One axis of a SETPOINT: target, rate and acceleration (section 9.3). -/
structure AxisMove where
  target : Int
  rate   : Nat
  accel  : Nat
  deriving DecidableEq, Repr

/-- The kind of a SETPOINT entry; a SLEW carries its group start instant (section 9.3). -/
inductive MoveKind where
  | slew (groupStart : Nat)
  | stow
  deriving DecidableEq, Repr

/-- A SETPOINT entry (section 9.3). -/
structure Setpoint where
  kind : MoveKind
  az   : AxisMove
  el   : AxisMove
  deriving DecidableEq, Repr

/-- An entry of a motion order list (TABLE 9.2). -/
inductive Order where
  | setpoint (sp : Setpoint)
  | hold
  | cut
  deriving DecidableEq, Repr

/-- What a transaction sent (TABLE 9.2). -/
inductive Sent where
  | motion (o : Order)
  | heat (on : Bool)
  | status
  | probe
  deriving DecidableEq, Repr

/-- A transaction under way (TABLE 9.2): what it sent, the characters put on the line (R195), and the site time at which it
began. headGone: a posting has removed or replaced the list entry sent (R170). heatPosted: a heat posting was taken meanwhile
(R167). orphan: the dish was made not present meanwhile (R176). -/
structure InFlight where
  sent       : Sent
  chars      : List Char9
  began      : Nat
  headGone   : Bool
  heatPosted : Bool
  orphan     : Bool
  deriving DecidableEq, Repr

/-- Link states, in the order of TABLE 9.2. -/
inductive Link where
  | active | lost
  deriving DecidableEq, Repr

/-- Failure stages, in the order of TABLE 9.2. -/
inductive Stage where
  | noEcho | badEcho | short | badCheck
  deriving DecidableEq, Repr

/-- What an engine keeps for one dish (TABLE 9.2). -/
structure BusRecord where
  orders    : List Order
  heat      : Option Bool
  inFlight  : Option InFlight
  link      : Link
  failures  : Nat
  lastStage : Option Stage
  goodCount : Nat
  countdown : Option Nat
  fresh     : Bool
  deriving DecidableEq, Repr

/-- R162: an engine's record of a dish at power-on. -/
def BusRecord.reset : BusRecord where
  orders    := []
  heat      := none
  inFlight  := none
  link      := .lost
  failures  := 0
  lastStage := none
  goodCount := 0
  countdown := none
  fresh     := false

/-- What an engine keeps for itself: when the current round began (section 9.3), and the drive address from which the round still
has to visit, which "rising drive address" implies (R163). -/
structure Engine where
  roundStart : Option Nat
  nextAddr   : Nat
  deriving DecidableEq, Repr

/-! ### Chapter 10: the command port -/

/-- Status codes, in the order of TABLE 11.5. -/
inductive Status where
  | ok | badValue | unknownRequest | noSuch | groupExists | dishBusy | groupMoving | alreadyMember | locked | iced | icedMember
  | windWatch | stowPending | powerShort | feedOverload | holderMismatch | duplicateTag | tagTableFull | windHigh | notStowed
  | spotBusy | unreachable
  deriving DecidableEq, Repr

/-- An answer waiting to be clocked out: the fields of TABLE 11.2 that its run fixes. -/
structure Answer where
  code    : Byte
  label   : Byte
  status  : Status
  results : List Byte
  deriving DecidableEq, Repr

/-- Outcomes of a frame, in the order of TABLE 11.3. -/
inductive FrameOutcome where
  | taken | refusedFull | badFrame | truncated
  deriving DecidableEq, Repr

/-- The conditions, in the order of TABLE 10.4. -/
inductive Cond where
  | groupEnded | stowChanged | dishLost | dishCut | tagHeld | iced | feedOverload | sensorFault | externalStow
  deriving DecidableEq, Repr

/-- A condition's flag and its items in rising number, each once (R188, R189). -/
structure CondRecord where
  flag  : Bool
  items : List Nat
  deriving DecidableEq, Repr

/-- The snapshot taken when NSEL falls (R180): the port status byte, the head answer as it is clocked out (padded bytes; none when
the queue was empty), and whether that answer still stands at the head (R182). -/
structure Exchange where
  statusByte : Byte
  answer     : Option (List Byte)
  live       : Bool
  deriving DecidableEq, Repr

/-- What the command port holds (TABLE 10.1), and the exchange in progress. The pending spot is the scan's. -/
structure Port where
  queue      : List Request
  running    : Option Request
  answers    : List Answer
  lastFrame  : FrameOutcome
  conditions : Vector CondRecord 9
  exchange   : Option Exchange
  deriving DecidableEq, Repr

/-- R179: the port at power-on. -/
def Port.reset : Port where
  queue      := []
  running    := none
  answers    := []
  lastFrame  := .taken
  conditions := Vector.replicate 9 ⟨false, []⟩
  exchange   := none

/-! ### The part -/

/-- The state of the part, and the model's own three fields: serveDue (a release, a lowering, an append or a departure of the
queue's head has made a serve of the stow queue due before the event ends, R67 and R116; false between commands), freeCount (which
free values come next: it advances with each one that SET MELT MODE answers and with each step that the part takes of itself), and
pending (the commands waiting to be taken, first in, first out). -/
structure State where
  siteTime    : Nat
  arrayClock  : Clock
  dishes      : Vector DishRecord 48
  groups      : Vector (Option Group) 8
  drive       : Vector DriveRes 48
  grants      : Vector MeltGrant 48
  feed        : Feed
  scan        : Scan
  cells       : Vector Cell 8
  stowQueue   : List DishNo
  stowMoves   : Vector (Option StowMove) 48
  siteCode    : BitVec 16
  detector    : Detector
  circuits    : Vector Circuit 48
  meltWeather : MeltWeather
  settings    : Settings
  tags        : Vector (Option Tag) 64
  bus         : Vector BusRecord 48
  engines     : Vector Engine 4
  port        : Port
  serveDue    : Bool
  freeCount   : Nat
  pending     : List Instr
  deriving DecidableEq, Repr

/-- The part after a power-on reset: R1, R37, R60, R64, R86, R100, R126, R143, R162, R179, with site time 0. -/
def State.reset : State where
  siteTime    := 0
  arrayClock  := 0
  dishes      := Vector.replicate 48 DishRecord.reset
  groups      := Vector.replicate 8 none
  drive       := Vector.replicate 48 ⟨0, none⟩
  grants      := Vector.replicate 48 ⟨0, 0⟩
  feed        := Feed.reset
  scan        := Scan.reset
  cells       := Vector.replicate 8 Cell.reset
  stowQueue   := []
  stowMoves   := Vector.replicate 48 none
  siteCode    := 0
  detector    := .disabled
  circuits    := Vector.replicate 48 Circuit.reset
  meltWeather := MeltWeather.reset
  settings    := Settings.reset
  tags        := Vector.replicate 64 none
  bus         := Vector.replicate 48 BusRecord.reset
  engines     := Vector.replicate 4 ⟨none, 0⟩
  port        := Port.reset
  serveDue    := false
  freeCount   := 0
  pending     := []

/-- The faults of the part. The manual names no event that stops it, so there is none: every command answers a next state. -/
inductive Fault where
  deriving DecidableEq, Repr

/-- The refusals of the model. -/
inductive Refusal where
  /-- Raised by exec's arm of a command that has no meaning yet, with its mnemonic (no arm raises it). Safe. -/
  | notModelled (mnemonic : String)
  deriving DecidableEq, Repr

end Machine
end Sys2Proof
end

