-- ==== Sys2Proof/Machine/Flags.lean ====
section
/-! DEFINITION. Every flag, copy, count and measure that the manual derives from other state, computed from its one home: lock
coverage, stow demand, stow blocked reason and the ICED copy (R4, R5), the cell counts (R124), the measures of power (R70), the
demanded duty (R131), ATTN and the STOW line (R190, R106), and the port's counts (R184). -/

namespace Sys2Proof
namespace Machine

/-! ### The dish table's copies (R4, R5) -/

/-- TABLE 8.2: what a scope covers. -/
def Scope.coverage : Scope → Coverage
  | .az => ⟨true, false, false⟩
  | .el => ⟨false, true, false⟩
  | .motion => ⟨true, true, false⟩
  | .melt => ⟨false, false, true⟩
  | .all => ⟨true, true, true⟩

/-- The union of two coverages. -/
def Coverage.union (a b : Coverage) : Coverage := ⟨a.az || b.az, a.el || b.el, a.melt || b.melt⟩

/-- Two scopes overlap when their coverage shares an item (TABLE 8.2). -/
def Scope.overlaps (a b : Scope) : Bool :=
  (a.coverage.az && b.coverage.az) || (a.coverage.el && b.coverage.el) || (a.coverage.melt && b.coverage.melt)

/-- Coverage of AZ or EL is motion coverage (R4). -/
def Coverage.motion (c : Coverage) : Bool := c.az || c.el

/-- The coverage that a slot of the tag table gives a dish. -/
def slotCoverage (d : DishNo) : Option Tag → Coverage
  | some t => if t.dish = d then t.scope.coverage else ⟨false, false, false⟩
  | none => ⟨false, false, false⟩

/-- R144: the union of the coverage of all tags that name the dish, whatever their states. -/
def coverageIn (tags : Vector (Option Tag) 64) (d : DishNo) : Coverage :=
  allTags.foldl (fun c k => c.union (slotCoverage d tags[k])) ⟨false, false, false⟩

/-- A dish's lock coverage (R144). -/
def State.coverage (s : State) (d : DishNo) : Coverage := coverageIn s.tags d

/-- A dish's stow demand: its wind cell is in STOW (R4). -/
def State.stowDemand (s : State) (d : DishNo) : Bool := s.cells[s.dishes[d].desc.cell].state == .stow

/-- TABLE 1.3: the stow blocked reason. -/
def State.blocked (s : State) (d : DishNo) : Option BlockedReason :=
  if s.stowDemand d then
    match s.dishes[d].motion with
    | .restrained => some .restrained
    | .cut => some .cut
    | .unreachable => some .unreachable
    | .stopping => some .stopping
    | .locked => if (s.coverage d).el then some .lockedEl else none
    | _ => none
  else none

/-- The dish record's ICED copy follows its melt circuit (R4). -/
def State.iced (s : State) (d : DishNo) : Bool := s.circuits[d].iced

/-- A dish's link is ACTIVE. -/
def State.linked (s : State) (d : DishNo) : Bool := s.bus[d].link == .active

/-- The position a rule reads: the observed one, or a free value where nothing has been observed (log entry 2). -/
def State.position (s : State) (d : DishNo) : Angles :=
  match s.dishes[d].observed with
  | some o => o.position
  | none => ⟨(Config.unobserved d).1, (Config.unobserved d).2⟩

/-- The group whose member list holds the dish, with its entry (R38). -/
def State.memberOf (s : State) (d : DishNo) : Option (GroupNo × Member) :=
  allGroups.findSome? (fun g =>
    match s.groups[g] with
    | some gr => (gr.members.find? (fun m => m.dish = d)).map (fun m => (g, m))
    | none => none)

/-- The dish's entry, if it has one, is MOVING. -/
def State.movingMember (s : State) (d : DishNo) : Bool :=
  match s.memberOf d with
  | some (_, m) => m.sub == .moving
  | none => false

/-! ### Reports of a reply (R160) -/

/-- Both axes STILL. -/
def Observed.bothStill (o : Observed) : Bool := o.azState == .still && o.elState == .still

/-- Either axis MOVING. -/
def Observed.anyMoving (o : Observed) : Bool := o.azState == .moving || o.elState == .moving

/-- Either axis FAULT. -/
def Observed.anyFault (o : Observed) : Bool := o.azState == .fault || o.elState == .fault

/-- Both axes ARRIVED. -/
def Observed.bothArrived (o : Observed) : Bool := o.azState == .arrived && o.elState == .arrived

/-- An axis STILL or ARRIVED is at rest (R7, R148). -/
def AxisState.atRest (a : AxisState) : Bool := a == .still || a == .arrived

/-- Each axis STILL or ARRIVED. -/
def Observed.atRest (o : Observed) : Bool := o.azState.atRest && o.elState.atRest

/-- R49: the difference from a target is at most the arrival window. -/
def withinWindow (window : Nat) (position target : Int) : Bool := (position - target).natAbs ≤ window

/-! ### Cells (R106, R124) -/

/-- A reason set is not empty. -/
def Reasons.any (r : Reasons) : Bool := r.wind || r.gust || r.sensor || r.forced || r.external

/-- WIND, GUST or SENSOR is present: the reasons that the hold-down keeps (R104). -/
def Reasons.held (r : Reasons) : Bool := r.wind || r.gust || r.sensor

/-- R106: the state that a reason set, a mean and a watch limit call for. -/
def judgedState (r : Reasons) (mean watch : Nat) : CellState :=
  if r.any then .stow else if watch ≤ mean then .watch else .calm

/-- R104: the hold-down runs. -/
def Cell.holdDownRuns (c : Cell) : Bool := c.holdDown.isSome && c.mean < c.limits.release && !c.sensorLost

/-- The present dishes of a cell, in rising number. -/
def State.cellDishes (s : State) (c : CellNo) : List DishNo :=
  allDishes.filter (fun d => s.dishes[d].present && s.dishes[d].desc.cell = c)

/-- R124: the stowing count. -/
def State.stowingCount (s : State) (c : CellNo) : Nat := (s.cellDishes c).countP (fun d => s.dishes[d].motion == .stowing)

/-- R124: the stowed count. -/
def State.stowedCount (s : State) (c : CellNo) : Nat := (s.cellDishes c).countP (fun d => s.dishes[d].motion == .stowed)

/-- R124: the blocked count. -/
def State.blockedCount (s : State) (c : CellNo) : Nat := (s.cellDishes c).countP (fun d => (s.blocked d).isSome)

/-- R106: the STOW line is driven while at least one cell is in STOW. -/
def State.stowLine (s : State) : Bool := allCells.any (fun c => s.cells[c].state == .stow)

/-! ### Measures of power (R65, R68, R70) -/

/-- R68: the melt reservation of a duty at a rate, ⌈rate · duty / 16⌉. -/
def meltReservation (rate duty : Nat) : Nat := ceilDiv (rate * duty) 16

/-- A circuit's melt reservation (R68). -/
def MeltGrant.reservation (g : MeltGrant) : Nat := meltReservation g.rate g.duty

/-- A circuit's floor level (R70). -/
def MeltGrant.floorLevel (g : MeltGrant) (floor : Nat) : Nat := meltReservation g.rate (min g.duty floor)

/-- ΣD: the sum of all drive reservation levels. -/
def sumDrive (v : Vector DriveRes 48) : Nat := (allDishes.map (fun d => v[d].level)).sum

/-- ΣM: the sum of all melt reservations. -/
def sumMelt (v : Vector MeltGrant 48) : Nat := (allDishes.map (fun d => v[d].reservation)).sum

/-- The sum of all floor levels. -/
def sumFloor (v : Vector MeltGrant 48) (floor : Nat) : Nat := (allDishes.map (fun d => v[d].floorLevel floor)).sum

/-- P_free = C − ΣD − ΣM (TABLE 4.3). -/
def State.pFree (s : State) : Int := s.feed.capacity - sumDrive s.drive - sumMelt s.grants

/-- P_avail: melt counted only down to its floor level (TABLE 4.3). -/
def State.pAvail (s : State) : Int := s.feed.capacity - sumDrive s.drive - sumFloor s.grants s.feed.meltFloor

/-- P_stow = C − ΣD (TABLE 4.3). -/
def State.pStow (s : State) : Int := s.feed.capacity - sumDrive s.drive

/-! ### Melt (R126, R131) -/

/-- A circuit's window offset, (dish mod 16) × 100 (R126). -/
def windowOffset (d : DishNo) : Nat := d.val % 16 * Config.sixteenth

/-- TABLE 7.4: the demanded duty. -/
def State.demandOf (s : State) (d : DishNo) : Nat :=
  if !s.dishes[d].present || (s.coverage d).melt then 0
  else
    match s.circuits[d].mode with
    | .off => 0
    | .forced => s.circuits[d].forcedDuty
    | .auto =>
      if !s.meltWeather.on then 0
      else
        match s.meltWeather.zones[s.dishes[d].desc.zone].temp with
        | none => 16
        | some t => if 20 < t then 0 else min 16 (4 + (20 - t).toNat / 10)

/-- The linger runs while the latest readings of both sensors are dry (R130). -/
def MeltWeather.lingerRuns (w : MeltWeather) : Bool :=
  w.on && w.precip[(0 : SensorNo)].reading == some false && w.precip[(1 : SensorNo)].reading == some false

/-- The site time of the next heater boundary (R84, R142). -/
def State.nextBoundary (s : State) : Nat :=
  match s.meltWeather.lastBoundary with
  | none => 0
  | some b => b + Config.heaterPeriod

/-! ### The command port (R181, R184, R190) -/

/-- The outstanding requests, o: the request queue, the running request and the pending spot (TABLE 10.1). -/
def State.outstanding (s : State) : Nat := s.port.queue.length + s.port.running.toList.length + s.scan.spot.toList.length

/-- The answers waiting, w. -/
def State.waiting (s : State) : Nat := s.port.answers.length

/-- Request slots free: the smaller of 4 − q and 8 − o − w (R181). -/
def State.slotsFree (s : State) : Nat :=
  min (Config.requestSlots - s.port.queue.length) (Config.answerSlots - s.outstanding - s.waiting)

/-- At least one condition flag is set. -/
def Port.conditionPending (p : Port) : Bool := (List.finRange 9).any (fun k => p.conditions[k].flag)

/-- R190: ATTN is asserted while an answer waits or a condition flag is set. -/
def State.attn (s : State) : Bool := !s.port.answers.isEmpty || s.port.conditionPending

end Machine
end Sys2Proof
end

