-- ==== Sys2Proof/Decode.lean ====
section
/-! DEFINITION. The part has no opcode words: every row of spec/opcode_table.json leaves its bits open, so decodeTableWord reads
no command from any word. What stands in their place is TABLE 11.4: which command runs a taken request, and back. -/

namespace Sys2Proof

/-- The command that a word spells by the table's bits: none, since no row of the table gives bits. -/
def decodeTableWord (_nbits _w : Nat) : Option Instr := none

/-- The command that runs a taken request, by the request codes of TABLE 11.4; a code absent from the table is run as
UNKNOWN_REQUEST (R186, R194). -/
def commandOf (r : Request) : Instr :=
  match r.code.toNat with
  | 0x10 => .describeDish r.label r.params
  | 0x11 => .resumeDish r.label r.params
  | 0x12 => .restrainDish r.label r.params
  | 0x13 => .lookUpDish r.label r.params
  | 0x14 => .writeOffDish r.label r.params
  | 0x20 => .openGroup r.label r.params
  | 0x21 => .addMember r.label r.params
  | 0x22 => .dropMember r.label r.params
  | 0x23 => .aimGroup r.label r.params
  | 0x24 => .startGroup r.label r.params
  | 0x25 => .haltGroup r.label r.params
  | 0x26 => .disbandGroup r.label r.params
  | 0x27 => .lookUpGroup r.label r.params
  | 0x30 => .setFeed r.label r.params
  | 0x31 => .lookUpBudget r.label r.params
  | 0x38 => .spotReading r.label r.params
  | 0x39 => .lookUpChannels r.label r.params
  | 0x40 => .setWindLimits r.label r.params
  | 0x41 => .lookUpCell r.label r.params
  | 0x42 => .forceStow r.label r.params
  | 0x43 => .releaseStow r.label r.params
  | 0x44 => .setSiteCode r.label r.params
  | 0x50 => .setMeltMode r.label r.params
  | 0x51 => .setMeltLimits r.label r.params
  | 0x52 => .lookUpMelt r.label r.params
  | 0x60 => .placeTag r.label r.params
  | 0x61 => .releaseTag r.label r.params
  | 0x62 => .lookUpTag r.label r.params
  | 0x63 => .listTags r.label r.params
  | 0x70 => .setClock r.label r.params
  | 0x71 => .readConditions r.label r.params
  | 0x72 => .resetCoordination r.label r.params
  | _ => .unknownRequest r.code r.label r.params

/-- The request a command runs, or none for an event of the part. -/
def requestOf : Instr → Option Request
  | .describeDish label params => some ⟨0x10, label, params⟩
  | .resumeDish label params => some ⟨0x11, label, params⟩
  | .restrainDish label params => some ⟨0x12, label, params⟩
  | .lookUpDish label params => some ⟨0x13, label, params⟩
  | .writeOffDish label params => some ⟨0x14, label, params⟩
  | .openGroup label params => some ⟨0x20, label, params⟩
  | .addMember label params => some ⟨0x21, label, params⟩
  | .dropMember label params => some ⟨0x22, label, params⟩
  | .aimGroup label params => some ⟨0x23, label, params⟩
  | .startGroup label params => some ⟨0x24, label, params⟩
  | .haltGroup label params => some ⟨0x25, label, params⟩
  | .disbandGroup label params => some ⟨0x26, label, params⟩
  | .lookUpGroup label params => some ⟨0x27, label, params⟩
  | .setFeed label params => some ⟨0x30, label, params⟩
  | .lookUpBudget label params => some ⟨0x31, label, params⟩
  | .spotReading label params => some ⟨0x38, label, params⟩
  | .lookUpChannels label params => some ⟨0x39, label, params⟩
  | .setWindLimits label params => some ⟨0x40, label, params⟩
  | .lookUpCell label params => some ⟨0x41, label, params⟩
  | .forceStow label params => some ⟨0x42, label, params⟩
  | .releaseStow label params => some ⟨0x43, label, params⟩
  | .setSiteCode label params => some ⟨0x44, label, params⟩
  | .setMeltMode label params => some ⟨0x50, label, params⟩
  | .setMeltLimits label params => some ⟨0x51, label, params⟩
  | .lookUpMelt label params => some ⟨0x52, label, params⟩
  | .placeTag label params => some ⟨0x60, label, params⟩
  | .releaseTag label params => some ⟨0x61, label, params⟩
  | .lookUpTag label params => some ⟨0x62, label, params⟩
  | .listTags label params => some ⟨0x63, label, params⟩
  | .setClock label params => some ⟨0x70, label, params⟩
  | .readConditions label params => some ⟨0x71, label, params⟩
  | .resetCoordination label params => some ⟨0x72, label, params⟩
  | .unknownRequest code label params => some ⟨code, label, params⟩
  | .powerOnReset => none
  | .exchangeBegin => none
  | .exchangeEnd _ => none
  | .scanRoundStart => none
  | .conversionEnd _ => none
  | .scanRoundEnd _ => none
  | .spotConversionEnd _ => none
  | .pollRoundStart _ => none
  | .visit _ => none
  | .presenceProbe _ => none
  | .transactionEnd _ _ _ => none
  | .memberDeadlineExpiry _ => none
  | .stowDeadlineExpiry _ => none
  | .quietTimeEnd _ => none
  | .holdDownExpiry _ => none
  | .lingerExpiry => none
  | .heaterBoundary => none
  | .windowOpen _ => none
  | .windowClose _ => none
  | .weatherByte _ _ => none

/-- The frame lengths n that TABLE 11.4 allows for a request code; none for a code absent from the table. -/
def frameLengths (code : Nat) : List Nat :=
  match code with
  | 0x10 => [6, 30, 33]
  | 0x11 => [5]
  | 0x12 => [5]
  | 0x13 => [5]
  | 0x14 => [5]
  | 0x20 => [11]
  | 0x21 => [6, 12]
  | 0x22 => [6]
  | 0x23 => [11]
  | 0x24 => [5]
  | 0x25 => [5]
  | 0x26 => [5]
  | 0x27 => [5]
  | 0x30 => [6]
  | 0x31 => [4]
  | 0x38 => [5]
  | 0x39 => [4]
  | 0x40 => [16]
  | 0x41 => [5]
  | 0x42 => [5]
  | 0x43 => [5]
  | 0x44 => [6]
  | 0x50 => [7]
  | 0x51 => [17]
  | 0x52 => [5]
  | 0x60 => [8]
  | 0x61 => [7]
  | 0x62 => [5]
  | 0x63 => [5]
  | 0x70 => [8]
  | 0x71 => [4]
  | 0x72 => [4]
  | _ => []

/-- A request code of TABLE 11.4. -/
def knownCode (code : Byte) : Bool := !(frameLengths code.toNat).isEmpty

end Sys2Proof
end

