-- ==== Sys2Proof/Machine/Operands.lean ====
section
/-! DEFINITION. Operand forms (Chapter 11): the check code, the fields of a request read by width, the parameters of each request as
named fields with their frame bytes, the fields of an answer written by width, and the frames of the drive bus. -/

namespace Sys2Proof
namespace Machine

/-! ### The check code (R193) -/

/-- One bit of the CRC: shift left, and fold in x² + x + 1 when the x⁸ term comes out. -/
def crcBit (r : Byte) : Byte := if r.msb then (r <<< 1) ^^^ 0x07 else r <<< 1

/-- One byte fed most significant bit first. -/
def crcByte (r b : Byte) : Byte :=
  crcBit (crcBit (crcBit (crcBit (crcBit (crcBit (crcBit (crcBit (r ^^^ b))))))))

/-- R193: the CRC of a sequence of bytes; the register starts at 0x00. -/
def crc (bs : List Byte) : Byte := bs.foldl crcByte 0x00

/-! ### Reading fields by width (R194) -/

/-- The byte at an offset of the parameters, unsigned. -/
def field8 (ps : List Byte) (i : Nat) : Nat := (ps.getD i 0).toNat

/-- A two-byte field, high byte first. -/
def field16 (ps : List Byte) (i : Nat) : Nat := field8 ps i * 256 + field8 ps (i + 1)

/-- A three-byte field, high byte first. -/
def field24 (ps : List Byte) (i : Nat) : Nat := field16 ps i * 256 + field8 ps (i + 2)

/-- A four-byte field, high byte first. -/
def field32 (ps : List Byte) (i : Nat) : Nat := field24 ps i * 256 + field8 ps (i + 3)

/-- An angle or offset field: 24-bit two's complement. -/
def fieldAngle (ps : List Byte) (i : Nat) : Int := (BitVec.ofNat 24 (field24 ps i)).toInt

/-- A number that is some Fin, if it lies in range. -/
def asFin (n : Nat) (k : Nat) : Option (Fin n) := if h : k < n then some ⟨k, h⟩ else none

/-! ### Writing fields by width (R194) -/

/-- One byte. -/
def put8 (n : Nat) : List Byte := [BitVec.ofNat 8 n]

/-- Two bytes, high byte first. -/
def put16 (n : Nat) : List Byte := [BitVec.ofNat 8 (n / 256), BitVec.ofNat 8 n]

/-- Three bytes, high byte first. -/
def put24 (n : Nat) : List Byte := BitVec.ofNat 8 (n / 65536) :: put16 n

/-- Four bytes, high byte first; a longer count gives its low 32 bits. -/
def put32 (n : Nat) : List Byte := BitVec.ofNat 8 (n / 16777216) :: put24 n

/-- Two bytes, two's complement. -/
def putInt16 (i : Int) : List Byte := put16 (BitVec.ofInt 16 i).toNat

/-- An angle: three bytes, two's complement. -/
def putAngle (i : Int) : List Byte := put24 (BitVec.ofInt 24 i).toNat

/-- Yes or no, set or clear: 1 or 0. -/
def putFlag (b : Bool) : List Byte := put8 b.toNat

/-- A stamp: four bytes. -/
def putClock (c : Clock) : List Byte := put32 c.toNat

/-- A field that may be absent: 0, or 1 and the field. -/
def putOption {α : Type} (f : α → List Byte) : Option α → List Byte
  | none => put8 0
  | some a => put8 1 ++ f a

/-- A list: a one-byte count and the entries. -/
def putList {α : Type} (f : α → List Byte) (l : List α) : List Byte := put8 l.length ++ l.flatMap f

/-- A direction given as two angles. -/
def putAngles (a : Angles) : List Byte := putAngle a.az ++ putAngle a.el

/-! ### The parameters of the requests (TABLE 11.4) -/

/-- The description fields a DESCRIBE DISH carries, unjudged; the stow elevation may be left out. -/
structure DescribeFields where
  cell    : Nat
  zone    : Nat
  azLower : Int
  azUpper : Int
  elLower : Int
  elUpper : Int
  azVMax  : Nat
  elVMax  : Nat
  azAMax  : Nat
  elAMax  : Nat
  pDrive  : Nat
  pMelt   : Nat
  stowEl  : Option Int
  deriving DecidableEq, Repr

/-- DESCRIBE DISH: the dish, the present byte, and the description fields of the two longer lengths. -/
structure DescribeArgs where
  dish    : Nat
  present : Nat
  fields  : Option DescribeFields
  deriving DecidableEq, Repr

/-- Reads DESCRIBE DISH's parameters: 2, 26 or 29 bytes. -/
def readDescribe (ps : List Byte) : DescribeArgs where
  dish    := field8 ps 0
  present := field8 ps 1
  fields  :=
    if ps.length = 2 then none
    else some {
      cell := field8 ps 2, zone := field8 ps 3
      azLower := fieldAngle ps 4, azUpper := fieldAngle ps 7
      elLower := fieldAngle ps 10, elUpper := fieldAngle ps 13
      azVMax := field16 ps 16, elVMax := field16 ps 18, azAMax := field16 ps 20, elAMax := field16 ps 22
      pDrive := field8 ps 24, pMelt := field8 ps 25
      stowEl := if ps.length = 26 then none else some (fieldAngle ps 26) }

/-- The parameter bytes of a DESCRIBE DISH. -/
def describeParams (a : DescribeArgs) : List Byte :=
  put8 a.dish ++ put8 a.present ++
  match a.fields with
  | none => []
  | some f =>
    put8 f.cell ++ put8 f.zone ++ putAngle f.azLower ++ putAngle f.azUpper ++ putAngle f.elLower ++ putAngle f.elUpper ++
    put16 f.azVMax ++ put16 f.elVMax ++ put16 f.azAMax ++ put16 f.elAMax ++ put8 f.pDrive ++ put8 f.pMelt ++
    match f.stowEl with
    | none => []
    | some e => putAngle e

/-- OPEN GROUP and AIM GROUP: a group and a target. -/
structure TargetArgs where
  group : Nat
  az    : Int
  el    : Int
  deriving DecidableEq, Repr

/-- Reads OPEN GROUP's and AIM GROUP's parameters. -/
def readTarget (ps : List Byte) : TargetArgs := ⟨field8 ps 0, fieldAngle ps 1, fieldAngle ps 4⟩

/-- The parameter bytes of an OPEN GROUP or AIM GROUP. -/
def targetParams (a : TargetArgs) : List Byte := put8 a.group ++ putAngle a.az ++ putAngle a.el

/-- ADD MEMBER: a group, a dish, and both offsets or neither. -/
structure AddArgs where
  group   : Nat
  dish    : Nat
  offsets : Option Angles
  deriving DecidableEq, Repr

/-- Reads ADD MEMBER's parameters: 2 or 8 bytes. -/
def readAdd (ps : List Byte) : AddArgs :=
  ⟨field8 ps 0, field8 ps 1, if ps.length = 2 then none else some ⟨fieldAngle ps 2, fieldAngle ps 5⟩⟩

/-- The parameter bytes of an ADD MEMBER. -/
def addParams (a : AddArgs) : List Byte :=
  put8 a.group ++ put8 a.dish ++
  match a.offsets with
  | none => []
  | some o => putAngles o

/-- SET WIND LIMITS: a cell and its five limits. -/
structure WindArgs where
  cell   : Nat
  limits : WindLimits
  deriving DecidableEq, Repr

/-- Reads SET WIND LIMITS's parameters. -/
def readWind (ps : List Byte) : WindArgs :=
  ⟨field8 ps 0, ⟨field16 ps 1, field16 ps 3, field16 ps 5, field16 ps 7, field24 ps 9⟩⟩

/-- The parameter bytes of a SET WIND LIMITS. -/
def windParams (a : WindArgs) : List Byte :=
  put8 a.cell ++ put16 a.limits.watch ++ put16 a.limits.stowMean ++ put16 a.limits.gust ++ put16 a.limits.release ++
  put24 a.limits.holdDown

/-- SET MELT MODE: a dish (0xFF for ALL), a mode and a duty. -/
structure ModeArgs where
  dish : Nat
  mode : Nat
  duty : Nat
  deriving DecidableEq, Repr

/-- Reads SET MELT MODE's parameters. -/
def readMode (ps : List Byte) : ModeArgs := ⟨field8 ps 0, field8 ps 1, field8 ps 2⟩

/-- The parameter bytes of a SET MELT MODE. -/
def modeParams (a : ModeArgs) : List Byte := put8 a.dish ++ put8 a.mode ++ put8 a.duty

/-- SET MELT LIMITS: the six site settings (TABLE 7.3). -/
structure LimitsArgs where
  meltFloor : Nat
  settings  : Settings
  deriving DecidableEq, Repr

/-- Reads SET MELT LIMITS's parameters; the watch elevation floor is an angle. -/
def readLimits (ps : List Byte) : LimitsArgs :=
  ⟨field8 ps 0, ⟨field16 ps 1, field24 ps 3, field16 ps 6, field16 ps 8, fieldAngle ps 10⟩⟩

/-- The six settings by width, as SET MELT LIMITS carries them and as its answer and LOOK UP MELT report them. -/
def limitsParams (a : LimitsArgs) : List Byte :=
  put8 a.meltFloor ++ put16 a.settings.iceLimit ++ put24 a.settings.snowLinger ++ put16 a.settings.settleMargin ++
  put16 a.settings.arrivalWindow ++ putAngle a.settings.watchFloor

/-- PLACE TAG: a holder, a dish and a scope byte. -/
structure PlaceArgs where
  holder : Nat
  dish   : Nat
  scope  : Nat
  deriving DecidableEq, Repr

/-- Reads PLACE TAG's parameters. -/
def readPlace (ps : List Byte) : PlaceArgs := ⟨field16 ps 0, field8 ps 2, field8 ps 3⟩

/-- The parameter bytes of a PLACE TAG. -/
def placeParams (a : PlaceArgs) : List Byte := put16 a.holder ++ put8 a.dish ++ put8 a.scope

/-- RELEASE TAG: a tag id and a holder. -/
structure ReleaseArgs where
  tag    : Nat
  holder : Nat
  deriving DecidableEq, Repr

/-- Reads RELEASE TAG's parameters. -/
def readRelease (ps : List Byte) : ReleaseArgs := ⟨field8 ps 0, field16 ps 1⟩

/-- The parameter bytes of a RELEASE TAG. -/
def releaseParams (a : ReleaseArgs) : List Byte := put8 a.tag ++ put16 a.holder

/-- The scope a PLACE TAG byte names (TABLE 11.4). -/
def scopeOf : Nat → Option Scope
  | 0 => some .az
  | 1 => some .el
  | 2 => some .motion
  | 3 => some .melt
  | 4 => some .all
  | _ => none

/-- The mode a SET MELT MODE byte names (TABLE 11.4). -/
def modeOf : Nat → Option MeltMode
  | 0 => some .off
  | 1 => some .auto
  | 2 => some .forced
  | _ => none

/-! ### Named values as numbers: the place in the table that first lists them (R194) -/

/-- TABLE 1.1. -/
def MotionState.number : MotionState → Nat
  | .restrained => 0 | .free => 1 | .member => 2 | .stopping => 3 | .locked => 4
  | .stowQueued => 5 | .stowing => 6 | .stowed => 7 | .cut => 8 | .unreachable => 9

/-- TABLE 1.1. -/
def CutReason.number : CutReason → Nat
  | .overrun => 0 | .falseArrival => 1 | .driveFault => 2 | .driveRefused => 3

/-- TABLE 1.1. -/
def AxisState.number : AxisState → Nat
  | .still => 0 | .moving => 1 | .arrived => 2 | .fault => 3

/-- TABLE 1.1. -/
def DriveFault.number : DriveFault → Nat
  | .none => 0 | .limit => 1 | .overcurrent => 2 | .brake => 3 | .estop => 4 | .localControl => 5

/-- TABLE 1.1. -/
def BlockedReason.number : BlockedReason → Nat
  | .restrained => 0 | .lockedEl => 1 | .cut => 2 | .unreachable => 3 | .stopping => 4

/-- TABLE 3.1. -/
def GroupState.number : GroupState → Nat
  | .opened => 0 | .moving => 1 | .halting => 2 | .arrived => 3 | .partially => 4 | .halted => 5

/-- TABLE 3.2. -/
def SubState.number : SubState → Nat
  | .waiting => 0 | .moving => 1 | .arrived => 2

/-- Section 3.1, LOCKED being 0. -/
def RemovalReason.number : RemovalReason → Nat
  | .locked => 0 | .stow => 1 | .lost => 2 | .overrun => 3 | .falseArrival => 4 | .driveFault => 5 | .driveRefused => 6

/-- TABLE 4.1. -/
def ResKind.number : ResKind → Nat
  | .slew => 0 | .stow => 1 | .stop => 2 | .retained => 3

/-- TABLE 5.2. -/
def ChanStatus.number : ChanStatus → Nat
  | .good => 0 | .held => 1 | .failed => 2

/-- TABLE 5.3a. -/
def RefMode.number : RefMode → Nat
  | .normal => 0 | .fault => 1

/-- TABLE 6.1. -/
def CellState.number : CellState → Nat
  | .calm => 0 | .watch => 1 | .stow => 2

/-- TABLE 7.1. -/
def MeltMode.number : MeltMode → Nat
  | .off => 0 | .auto => 1 | .forced => 2

/-- TABLE 7.1. -/
def WindowKind.number : WindowKind → Nat
  | .own => 0 | .carried => 1

/-- TABLE 8.1. -/
def Scope.number : Scope → Nat
  | .az => 0 | .el => 1 | .motion => 2 | .melt => 3 | .all => 4

/-- TABLE 8.1. -/
def TagState.number : TagState → Nat
  | .stopping => 0 | .held => 1

/-- TABLE 9.2. -/
def Link.number : Link → Nat
  | .active => 0 | .lost => 1

/-- TABLE 9.2. -/
def Stage.number : Stage → Nat
  | .noEcho => 0 | .badEcho => 1 | .short => 2 | .badCheck => 3

/-- TABLE 11.5. -/
def Status.number : Status → Nat
  | .ok => 0x00 | .badValue => 0x01 | .unknownRequest => 0x02 | .noSuch => 0x03 | .groupExists => 0x04 | .dishBusy => 0x05
  | .groupMoving => 0x06 | .alreadyMember => 0x07 | .locked => 0x08 | .iced => 0x09 | .icedMember => 0x0A
  | .windWatch => 0x0B | .stowPending => 0x0C | .powerShort => 0x0D | .feedOverload => 0x0E | .holderMismatch => 0x0F
  | .duplicateTag => 0x10 | .tagTableFull => 0x11 | .windHigh => 0x12 | .notStowed => 0x13 | .spotBusy => 0x14
  | .unreachable => 0x15

/-- TABLE 11.3. -/
def FrameOutcome.number : FrameOutcome → Nat
  | .taken => 0 | .refusedFull => 1 | .badFrame => 2 | .truncated => 3

/-- "on or off", "ON or OFF", "wet, dry": the first of the two listed is 0 (log entry 5). -/
def firstOfTwo (b : Bool) : List Byte := if b then put8 0 else put8 1

/-- The place of a condition in TABLE 10.4. -/
def Cond.index : Cond → Fin 9
  | .groupEnded => 0 | .stowChanged => 1 | .dishLost => 2 | .dishCut => 3 | .tagHeld => 4 | .iced => 5
  | .feedOverload => 6 | .sensorFault => 7 | .externalStow => 8

/-- Lock coverage as one byte: bit 0 AZ, bit 1 EL, bit 2 MELT (TABLE 1.1, R194). -/
def putCoverage (c : Coverage) : List Byte := put8 (c.az.toNat + 2 * c.el.toNat + 4 * c.melt.toNat)

/-- A reason set as one byte: bit 0 WIND … bit 4 EXTERNAL (TABLE 6.1, R194). -/
def putReasons (r : Reasons) : List Byte :=
  put8 (r.wind.toNat + 2 * r.gust.toNat + 4 * r.sensor.toNat + 8 * r.forced.toNat + 16 * r.external.toNat)

/-! ### Command port frames -/

/-- The bytes of a request frame: length, code, label, parameters, check (TABLE 11.1). -/
def frameBytes (r : Request) : List Byte :=
  let body := BitVec.ofNat 8 (r.params.length + 4) :: r.code :: r.label :: r.params
  body ++ [crc body]

/-- The length of an answer in units of 8 bytes: u = ⌈(6 + r) / 8⌉ (TABLE 11.2). -/
def answerUnits (a : Answer) : Nat := ceilDiv (6 + a.results.length) 8

/-- An answer as it is clocked out, padded to whole units (TABLE 11.2). -/
def answerBytes (a : Answer) : List Byte :=
  let body := [a.code, a.label] ++ put8 a.status.number ++ put16 a.results.length ++ a.results
  body ++ [crc body] ++ List.replicate (8 * answerUnits a - (6 + a.results.length)) 0x00

/-- The k-th byte shifted out in an exchange: status byte, answer length byte, the snapshot's answer, then fill (R180). -/
def Exchange.byteOut (x : Exchange) (k : Nat) : Byte :=
  (x.statusByte :: BitVec.ofNat 8 ((x.answer.getD []).length / 8) :: x.answer.getD []).getD k 0x00

/-- The answer length byte of an exchange, in units (R180). -/
def Exchange.units (x : Exchange) : Nat := (x.answer.getD []).length / 8

/-! ### Drive bus frames (section 11.3) -/

/-- The segment of a dish (R161). -/
def segOf (d : DishNo) : SegNo := ⟨d.val / 12, by omega⟩

/-- The drive address of a dish on its segment (R161). -/
def addrOf (d : DishNo) : Nat := d.val % 12

/-- The dishes of a segment in rising drive address. -/
def segDishes (g : SegNo) : List DishNo := allDishes.filter (fun d => segOf d = g)

/-- An address character: the ninth bit set (R161). -/
def addressChar (v : Nat) : Char9 := BitVec.ofNat 9 (256 + v)

/-- Whether a character is an address character. -/
def isAddress (c : Char9) : Bool := c.msb

/-- A data character: the ninth bit clear. -/
def dataChar (b : Byte) : Char9 := b.setWidth 9

/-- TABLE 11.6: the data bytes of an order, less the CRC; a SETPOINT carries the start delay worked out at the send. -/
def orderData (sent : Sent) (delay : Nat) : List Byte :=
  match sent with
  | .motion (.setpoint sp) =>
    put8 0x01 ++ putAngle sp.az.target ++ put16 sp.az.rate ++ put16 sp.az.accel ++
    putAngle sp.el.target ++ put16 sp.el.rate ++ put16 sp.el.accel ++ put8 delay
  | .motion .hold => put8 0x02
  | .motion .cut => put8 0x03
  | .heat true => put8 0x04
  | .heat false => put8 0x05
  | .status => put8 0x06
  | .probe => []

/-- R195: the characters of an order or probe, in the order they are sent; the address character is not in the CRC. -/
def orderChars (addr : Nat) (sent : Sent) (delay : Nat) : List Char9 :=
  match sent with
  | .probe => [addressChar (0x20 + addr)]
  | _ => addressChar addr :: (orderData sent delay ++ [crc (orderData sent delay)]).map dataChar

/-- A good reply to an order: its status and what it reports (TABLE 11.7). -/
structure Reply where
  refused  : Bool
  observed : Observed
  deriving DecidableEq, Repr

/-- An axis state of TABLE 11.7. -/
def axisStateOf : Nat → Option AxisState
  | 0 => some .still
  | 1 => some .moving
  | 2 => some .arrived
  | 3 => some .fault
  | _ => none

/-- A drive fault code of TABLE 11.7. -/
def driveFaultOf : Nat → Option DriveFault
  | 0 => some .none
  | 1 => some .limit
  | 2 => some .overcurrent
  | 3 => some .brake
  | 4 => some .estop
  | 5 => some .localControl
  | _ => none

/-- A value of 0 or 1; none for any other. -/
def bitOf : Nat → Option Bool
  | 0 => some false
  | 1 => some true
  | _ => none

/-- R195: a 12-character reply whose CRC agrees and whose every field holds a defined value. -/
def readReply (bs : List Byte) : Option Reply := do
  let refused ← bitOf (field8 bs 1)
  let az ← axisStateOf (field8 bs 8 / 16)
  let el ← axisStateOf (field8 bs 8 % 16)
  let fault ← driveFaultOf (field8 bs 9)
  let heater ← bitOf (field8 bs 10)
  if crc (bs.take 11) = bs.getD 11 0 then
    some ⟨refused, ⟨⟨fieldAngle bs 2, fieldAngle bs 5⟩, az, el, fault, heater⟩⟩
  else none

/-- What a transaction's end shows (R169): a failure with its stage, a good reply, or a good acknowledge. -/
inductive Judged where
  | failed (stage : Stage)
  | reply (r : Reply)
  | acknowledge
  deriving DecidableEq, Repr

/-- The first character a good reply holds (R169, R195). -/
def echoOf (addr : Nat) (sent : Sent) : Nat :=
  match sent with
  | .probe => 0x20 + addr
  | _ => addr

/-- The full number of characters of a reply (TABLE 11.7, TABLE 11.8). -/
def replyLength (sent : Sent) : Nat :=
  match sent with
  | .probe => 2
  | _ => 12

/-- The data characters of a reply: taken until it is complete or an address character ends it (R168). -/
def replyData (sent : Sent) (chars : List Char9) : List Byte :=
  ((chars.take (replyLength sent)).takeWhile (fun c => !isAddress c)).map (fun c => c.setWidth 8)

/-- R169: the checks of a transaction's end, in order. A lone character still incomplete when the window closes is SHORT, and so is a lone
garbled one that never became whole; a lone whole character that is not the echo is BAD_ECHO (log entry 6, the model's choice). -/
def judgeTransaction (addr : Nat) (sent : Sent) (chars : List Char9) (cutShort : Bool) : Judged :=
  match replyData sent chars with
  | [] => if chars ≠ [] then .failed .badEcho else if cutShort then .failed .short else .failed .noEcho
  | e :: rest =>
    if e.toNat ≠ echoOf addr sent then .failed .badEcho
    else if rest.length + 1 < replyLength sent then .failed .short
    else
      match sent with
      | .probe => if rest = [0x5A] then .acknowledge else .failed .badCheck
      | _ =>
        match readReply (e :: rest) with
        | some r => .reply r
        | none => .failed .badCheck

end Machine
end Sys2Proof
end

