-- ==== Sys2Proof/Machine/Ops.lean ====
section
/-! DEFINITION. The operations that the commands share: one update per piece of state, then the manual's own operations block by
block: raising a condition, posting orders, drive reservations, heater windows and shedding, settling, stopping, cutting, losing a
dish, removals from groups, the stow queue and its serve, and the judgement of a cell with its two visits. -/

namespace Sys2Proof
namespace Machine

/-! ### Updates of one piece of state -/

/-- Changes a dish record. -/
def State.modDish (s : State) (d : DishNo) (f : DishRecord → DishRecord) : State :=
  { s with dishes := s.dishes.set d (f s.dishes[d]) }

/-- Changes a group record, if the id holds one. -/
def State.modGroup (s : State) (g : GroupNo) (f : Group → Group) : State :=
  { s with groups := s.groups.set g (s.groups[g].map f) }

/-- Creates or retires a group record. -/
def State.setGroup (s : State) (g : GroupNo) (o : Option Group) : State := { s with groups := s.groups.set g o }

/-- Changes a drive reservation. -/
def State.modDrive (s : State) (d : DishNo) (f : DriveRes → DriveRes) : State :=
  { s with drive := s.drive.set d (f s.drive[d]) }

/-- Changes a melt grant. -/
def State.modGrant (s : State) (d : DishNo) (f : MeltGrant → MeltGrant) : State :=
  { s with grants := s.grants.set d (f s.grants[d]) }

/-- Changes the items of the reservation table that are not kept per dish. -/
def State.modFeed (s : State) (f : Feed → Feed) : State := { s with feed := f s.feed }

/-- Changes the sensor scan. -/
def State.modScan (s : State) (f : Scan → Scan) : State := { s with scan := f s.scan }

/-- Changes a cell record. -/
def State.modCell (s : State) (c : CellNo) (f : Cell → Cell) : State := { s with cells := s.cells.set c (f s.cells[c]) }

/-- Replaces the stow queue. -/
def State.setQueue (s : State) (q : List DishNo) : State := { s with stowQueue := q }

/-- Replaces a stow move record. -/
def State.setStowMove (s : State) (d : DishNo) (o : Option StowMove) : State :=
  { s with stowMoves := s.stowMoves.set d o }

/-- Replaces the detector state. -/
def State.setDetector (s : State) (x : Detector) : State := { s with detector := x }

/-- Changes a melt circuit record. -/
def State.modCircuit (s : State) (d : DishNo) (f : Circuit → Circuit) : State :=
  { s with circuits := s.circuits.set d (f s.circuits[d]) }

/-- Changes the melt controller's weather inputs. -/
def State.modWeather (s : State) (f : MeltWeather → MeltWeather) : State := { s with meltWeather := f s.meltWeather }

/-- Replaces a tag slot. -/
def State.setTag (s : State) (t : TagNo) (o : Option Tag) : State := { s with tags := s.tags.set t o }

/-- Changes an engine's record of a dish. -/
def State.modBus (s : State) (d : DishNo) (f : BusRecord → BusRecord) : State :=
  { s with bus := s.bus.set d (f s.bus[d]) }

/-- Changes an engine. -/
def State.modEngine (s : State) (g : SegNo) (f : Engine → Engine) : State :=
  { s with engines := s.engines.set g (f s.engines[g]) }

/-- Changes the command port. -/
def State.modPort (s : State) (f : Port → Port) : State := { s with port := f s.port }

/-- Marks a serve of the stow queue as due before the event ends. -/
def State.markServe (s : State) : State := { s with serveDue := true }

/-- Does one thing for every dish in rising number. -/
def forDishes (f : DishNo → State → State) (s : State) : State := allDishes.foldl (fun t d => f d t) s

/-! ### Conditions (R188) -/

/-- Adds an item in its place in rising number, once. -/
def insertItem (k : Nat) : List Nat → List Nat
  | [] => [k]
  | h :: t => if k < h then k :: h :: t else if k = h then h :: t else h :: insertItem k t

/-- R188: sets a condition's flag and adds the items named. -/
def raise (c : Cond) (items : List Nat) (s : State) : State :=
  s.modPort (fun p =>
    { p with conditions := p.conditions.set c.index ⟨true, items.foldl (fun l k => insertItem k l) p.conditions[c.index].items⟩ })

/-! ### Posting orders (R165, R167) -/

/-- An entry is a SETPOINT. -/
def Order.isSetpoint : Order → Bool
  | .setpoint _ => true
  | _ => false

/-- The tail of a list is HOLD or CUT. -/
def tailIsStop (l : List Order) : Bool :=
  match l.getLast? with
  | some .hold => true
  | some .cut => true
  | _ => false

/-- The tail of a list is a SETPOINT. -/
def tailIsSetpoint (l : List Order) : Bool :=
  match l.getLast? with
  | some o => o.isSetpoint
  | none => false

/-- R165: a motion order list after a posting. -/
def postList (o : Order) (l : List Order) : List Order :=
  match o with
  | .cut => [.cut]
  | .hold =>
    let kept := l.filter (fun e => !e.isSetpoint)
    if tailIsStop kept then kept else kept ++ [.hold]
  | .setpoint sp =>
    if l.contains .cut then l
    else if tailIsSetpoint l then l.dropLast ++ [.setpoint sp]
    else l ++ [.setpoint sp]

/-- Whether a posting removes or replaces the entry at the head of a list (R165, R170). -/
def postReplacesHead (o : Order) (l : List Order) : Bool :=
  match o, l with
  | _, [] => false
  | .cut, _ => true
  | .hold, h :: _ => h.isSetpoint
  | .setpoint _, [h] => h.isSetpoint
  | .setpoint _, _ => false

/-- Marks a motion transaction under way whose entry has left the head of the list. -/
def InFlight.loseHead (gone : Bool) (x : InFlight) : InFlight :=
  match x.sent with
  | .motion _ => { x with headGone := x.headGone || gone }
  | _ => x

/-- R165: posts a motion order to a dish; not taken while its link is LOST. -/
def postMotion (d : DishNo) (o : Order) (s : State) : State :=
  if s.linked d then
    s.modBus d (fun b =>
      { b with orders := postList o b.orders, inFlight := b.inFlight.map (InFlight.loseHead (postReplacesHead o b.orders)) })
  else s

/-- Marks a transaction under way during which a heat posting was taken (R167). -/
def InFlight.noteHeat (x : InFlight) : InFlight := { x with heatPosted := true }

/-- R167: posts HEAT ON or HEAT OFF to a dish's heat slot; not taken while its link is LOST (R138, R165). -/
def postHeat (d : DishNo) (on : Bool) (s : State) : State :=
  if s.linked d then s.modBus d (fun b => { b with heat := some on, inFlight := b.inFlight.map InFlight.noteHeat }) else s

/-! ### Drive reservations (R66) -/

/-- A change of kind keeps the level; a level of 0 has no kind (R66). -/
def DriveRes.withKind (k : ResKind) (r : DriveRes) : DriveRes := if r.level = 0 then ⟨0, none⟩ else ⟨r.level, some k⟩

/-- Changes the kind of a dish's drive reservation (TABLE 4.2). -/
def setKind (d : DishNo) (k : ResKind) (s : State) : State := s.modDrive d (DriveRes.withKind k)

/-- Releases a dish's drive reservation; a release of a level above 0 makes the free-power signal due (R66, R67). -/
def releaseDrive (d : DishNo) (s : State) : State :=
  if s.drive[d].level = 0 then s.modDrive d (fun _ => ⟨0, none⟩) else (s.modDrive d (fun _ => ⟨0, none⟩)).markServe

/-- Grants a dish a drive reservation of a level and kind (TABLE 4.2). -/
def grantDrive (d : DishNo) (k : ResKind) (level : Nat) (s : State) : State := s.modDrive d (fun _ => DriveRes.withKind k ⟨level, none⟩)

/-! ### Heater windows (R135, R136, R138) -/

/-- The boundary that began the current heater period. -/
def State.periodStart (s : State) : Nat := s.meltWeather.lastBoundary.getD 0

/-- The period's own window is due to open at this instant (R135). -/
def State.ownDue (s : State) (d : DishNo) : Bool :=
  !s.circuits[d].ownOpened && 0 < s.grants[d].duty && s.meltWeather.lastBoundary.isSome &&
  s.siteTime == s.periodStart + windowOffset d

/-- R135: the period's own window opens now, and HEAT ON is posted. -/
def openWindow (d : DishNo) (s : State) : State :=
  postHeat d true
    (s.modCircuit d (fun c =>
      { c with window := some ⟨s.siteTime, s.siteTime + s.grants[d].duty * Config.sixteenth, .own⟩, ownOpened := true }))

/-- R135: a window closes now and HEAT OFF is posted; where the own window is due at the same instant, its opening follows in the
same event. -/
def closeWindow (d : DishNo) (s : State) : State :=
  let s1 := postHeat d false (s.modCircuit d (fun c => { c with window := none }))
  if s1.ownDue d then openWindow d s1 else s1

/-- R136: the closing instant of an ON window after the granted duty has become g. -/
def refittedClose (periodStart g : Nat) (w : Window) : Nat :=
  match w.kind with
  | .own => w.opened + g * Config.sixteenth
  | .carried => min w.closes (periodStart + g * Config.sixteenth)

/-- R136: an ON window is refitted to a lowered duty, and ends now if its new closing instant has passed or is now. -/
def refitWindow (d : DishNo) (s : State) : State :=
  match s.circuits[d].window with
  | none => s
  | some w =>
    let closes := refittedClose s.periodStart s.grants[d].duty w
    if closes ≤ s.siteTime then closeWindow d s
    else s.modCircuit d (fun c => { c with window := some { w with closes := closes } })

/-- R72: a circuit's granted duty is lowered and its window refitted at once. -/
def lowerDuty (d : DishNo) (duty : Nat) (s : State) : State := refitWindow d (s.modGrant d (fun g => { g with duty := duty }))

/-- R69: a grant above the demand is lowered to it at once, which makes the free-power signal due. -/
def lowerToDemand (d : DishNo) (s : State) : State :=
  if s.circuits[d].demand < s.grants[d].duty then (lowerDuty d s.circuits[d].demand s).markServe else s

/-! ### Shedding (R71) -/

/-- R71: the circuit a step lowers: the highest duty above the floor, the highest dish number among equals, rate above 0. -/
def shedPick (v : Vector MeltGrant 48) (floor : Nat) : Option DishNo :=
  allDishes.foldl
    (fun best d =>
      if floor < v[d].duty && 0 < v[d].rate then
        match best with
        | none => some d
        | some b => if v[b].duty ≤ v[d].duty then some d else some b
      else best)
    none

/-- R71: shedding steps until the need is met or no circuit may be stepped; the fuel bounds the steps. -/
def shedLoop (floor : Nat) : Nat → Nat → State → State
  | 0, _, s => s
  | fuel + 1, need, s =>
    if need = 0 then s
    else
      match shedPick s.grants floor with
      | none => s
      | some d =>
        let s1 := lowerDuty d (s.grants[d].duty - 1) s
        shedLoop floor fuel (need - (s.grants[d].reservation - s1.grants[d].reservation)) s1

/-- The sum of all granted duties: no shedding takes more steps. -/
def sumDuty (v : Vector MeltGrant 48) : Nat := (allDishes.map (fun d => v[d].duty)).sum

/-- R71: sheds melt until `need` has been freed, stepping only circuits with duty above `floor`. -/
def shed (floor need : Nat) (s : State) : State := shedLoop floor (sumDuty s.grants) need s

/-! ### Motion states of a dish (Chapter 1) -/

/-- Sets a dish's motion state. -/
def setMotion (d : DishNo) (m : MotionState) (s : State) : State := s.modDish d (fun r => { r with motion := m })

/-- A dish joins the tail of the stow queue (R115), which makes a serve due. -/
def joinQueue (d : DishNo) (s : State) : State := ((setMotion d .stowQueued s).setQueue (s.stowQueue ++ [d])).markServe

/-- A dish's entry is deleted from the stow queue; a departure of the head makes a serve due (R117). -/
def leaveQueue (d : DishNo) (s : State) : State :=
  let s1 := s.setQueue (s.stowQueue.filter (fun e => e ≠ d))
  if s.stowQueue.head? = some d then s1.markServe else s1

/-- R6: a dish at rest, outside any group and stow move, is settled. -/
def settle (d : DishNo) (s : State) : State :=
  let s1 := s.modDish d (fun r =>
    { r with group := none, targets := none, cutReason := none, quiet := none, quietStopped := false, returnMark := false })
  if s.stowDemand d && !(s.coverage d).el then joinQueue d s1
  else if (s.coverage d).motion then setMotion d .locked s1
  else setMotion d .free s1

/-- R11: a dish goes to STOPPING with HOLD posted and its reservation STOP; a stow move record is discarded (R121). A dish already
STOPPING stays so without a second HOLD. Every cause but a group halt clears the group field. -/
def goStopping (d : DishNo) (keepGroup : Bool) (s : State) : State :=
  let s1 := if keepGroup then s else s.modDish d (fun r => { r with group := none })
  if s.dishes[d].motion = .stopping then s1
  else setKind d .stop (postMotion d .hold ((setMotion d .stopping s1).setStowMove d none))

/-- R14: the first report of both axes STILL releases the reservation and starts the quiet time. -/
def startQuiet (d : DishNo) (s : State) : State :=
  releaseDrive d (s.modDish d (fun r => { r with quiet := some Config.quietTime, quietStopped := false }))

/-- R13: a dish goes to CUT with its reason; a dish already CUT keeps its first reason. -/
def goCut (d : DishNo) (why : CutReason) (post : Bool) (s : State) : State :=
  if s.dishes[d].motion = .cut then s
  else
    let s1 := if s.dishes[d].motion = .stowQueued then leaveQueue d s else s
    let s2 := (s1.modDish d (fun r =>
      { r with motion := .cut, cutReason := some why, group := none, quiet := none, quietStopped := false })).setStowMove d none
    let s3 := raise .dishCut [d.val] (setKind d .stop s2)
    if post then postMotion d .cut s3 else s3

/-- R16: the entry to UNREACHABLE. -/
def goUnreachable (d : DishNo) (s : State) : State :=
  let s1 := if s.dishes[d].motion = .stowQueued then leaveQueue d s else s
  setKind d .retained
    ((s1.modDish d (fun r =>
      { r with motion := .unreachable, returnMark := false, group := none, targets := none, cutReason := none,
               quiet := none, quietStopped := false })).setStowMove d none)

/-! ### Removals and the end of a move (R53) -/

/-- Changes a member entry of a group. -/
def modMember (g : GroupNo) (d : DishNo) (f : Member → Member) (s : State) : State :=
  s.modGroup g (fun gr => { gr with members := gr.members.map (fun m => if m.dish = d then f m else m) })

/-- No member is left in sub-state MOVING. -/
def Group.atRest (gr : Group) : Bool := gr.members.all (fun m => m.sub ≠ .moving)

/-- R53, R57: the state of a group after an arrival, a removal or a halted member's rest. -/
def Group.judged (gr : Group) : Group :=
  if !gr.atRest then gr
  else
    match gr.state with
    | .moving => { gr with state := if gr.removals.isEmpty then .arrived else .partially }
    | .halting => { gr with state := .halted, members := gr.members.map (fun m => { m with sub := .waiting }) }
    | _ => gr

/-- R53: judges a group, and raises GROUP_ENDED where its move or its halt has ended. -/
def judgeGroup (g : GroupNo) (s : State) : State :=
  match s.groups[g] with
  | none => s
  | some gr =>
    let s1 := s.setGroup g (some gr.judged)
    if gr.judged.state = gr.state then s1 else raise .groupEnded [g.val] s1

/-- R38, R39: deletes a dish's member entry and appends (dish, reason) to the removal list. -/
def Group.remove (d : DishNo) (why : RemovalReason) (gr : Group) : Group :=
  { gr with
    members := gr.members.filter (fun m => m.dish ≠ d)
    removals := gr.removals.filter (fun e => e.1 ≠ d) ++ [(d, why)] }

/-- R53: a removal: the entry goes, the dish's group field becomes absent, the dish takes the transition its reason calls for, and
the group is judged. -/
def removeMember (g : GroupNo) (d : DishNo) (why : RemovalReason) (transition : State → State) (s : State) : State :=
  judgeGroup g
    (transition ((s.modGroup g (Group.remove d why)).modDish d (fun r => { r with group := none })))

/-- The removal reason of a cut (TABLE 1.5). -/
def CutReason.removal : CutReason → RemovalReason
  | .overrun => .overrun
  | .falseArrival => .falseArrival
  | .driveFault => .driveFault
  | .driveRefused => .driveRefused

/-- A dish is cut, and first removed from its group if it has an entry in one (R10, R12, R52). -/
def cutDish (d : DishNo) (why : CutReason) (post : Bool) (s : State) : State :=
  match s.memberOf d with
  | some (g, _) => removeMember g d why.removal (goCut d why post) s
  | none => goCut d why post s

/-- R16, R56: a present dish whose link is lost goes to UNREACHABLE, and is first removed from its group with LOST. -/
def loseDish (d : DishNo) (s : State) : State :=
  if !s.dishes[d].present || s.dishes[d].motion = .unreachable then s
  else
    match s.memberOf d with
    | some (g, _) => removeMember g d .lost (goUnreachable d) s
    | none => goUnreachable d s

/-- R54, R10: a member whose dish gains motion coverage is removed with LOCKED: stopped if MOVING, left if already STOPPING, settled
otherwise. -/
def lockMember (g : GroupNo) (m : Member) (s : State) : State :=
  removeMember g m.dish .locked
    (fun t => if m.sub = .moving || t.dishes[m.dish].motion = .stopping then goStopping m.dish false t else settle m.dish t) s

/-! ### Axis times (R27) -/

/-- Bisection: the least t in (lo, hi] with p t, for a p that is monotone and holds at hi; the fuel bounds the halvings. -/
def bisect (p : Nat → Bool) : Nat → Nat → Nat → Nat
  | 0, _, hi => hi
  | fuel + 1, lo, hi =>
    if hi ≤ lo + 1 then hi
    else if p ((lo + hi) / 2) then bisect p fuel lo ((lo + hi) / 2)
    else bisect p fuel ((lo + hi) / 2) hi

/-- The least t in (lo, hi] with p t. -/
def leastIn (p : Nat → Bool) (lo hi : Nat) : Nat := bisect p (hi - lo) lo hi

/-- R27: the axis time in cs over a distance at V_max v and A_max a. -/
def axisTime (dist v a : Nat) : Nat :=
  if dist = 0 then 0
  else if v * v ≤ dist * a then ceilDiv (100 * dist * a + 100 * (v * v)) (v * a)
  else leastIn (fun t => 40000 * dist ≤ t * t * a) 0 (40000 * dist)

/-- The distance of an axis from its target. -/
def distance (a b : Int) : Nat := (a - b).natAbs

/-! ### Stow moves and the stow queue (R114 to R118) -/

/-- R118: the stow move record of a dish, from its observed elevation to its stow elevation. -/
def stowMoveOf (s : State) (d : DishNo) : StowMove where
  time :=
    axisTime (distance s.dishes[d].desc.stowEl (s.position d).el) s.dishes[d].desc.el.vMax s.dishes[d].desc.el.aMax
  margin := s.settings.settleMargin
  start := none
  deadline := none

/-- R118: the stow SETPOINT of a dish. -/
def stowSetpoint (s : State) (d : DishNo) : Setpoint where
  kind := .stow
  az := ⟨(s.position d).az, 0, 0⟩
  el := ⟨s.dishes[d].desc.stowEl, s.dishes[d].desc.el.vMax, s.dishes[d].desc.el.aMax⟩

/-- R15, R118: a dish whose STOW reservation is granted goes to STOWING. -/
def startStow (d : DishNo) (s : State) : State :=
  postMotion d (.setpoint (stowSetpoint s d))
    ((s.modDish d (fun r =>
      { r with motion := .stowing, group := none, targets := some ⟨(s.position d).az, r.desc.stowEl⟩ })).setStowMove d
        (some (stowMoveOf s d)))

/-- R74, R75: sheds melt for a need of drive power, as far as the power free now falls short of it. -/
def shedForStow (need : Int) (s : State) : State := shed 0 (need - s.pFree).toNat s

/-- R74: grants the STOW reservation of a queue head, shedding melt first, and starts its move. -/
def serveHead (d : DishNo) (s : State) : State :=
  startStow d (grantDrive d .stow s.dishes[d].desc.pDrive (shedForStow s.dishes[d].desc.pDrive s))

/-- R116: serves the stow queue until it is empty or its head is refused; the fuel is the length of the queue. -/
def serveLoop : Nat → State → State
  | 0, s => s
  | fuel + 1, s =>
    match s.stowQueue with
    | [] => s
    | d :: rest =>
      if (s.dishes[d].desc.pDrive : Int) ≤ s.pStow then serveLoop fuel (serveHead d (s.setQueue rest)) else s

/-- R116: a serve of the stow queue. -/
def serve (s : State) : State := serveLoop s.stowQueue.length { s with serveDue := false }

/-- The serve or free-power signal that an event has made due (R67, R116). -/
def serveIfDue (s : State) : State := if s.serveDue then serve s else s

/-- R114, R75: a removed moving member is converted to a stow move, or stopped if the power is refused. -/
def convertOrHold (d : DishNo) (s : State) : State :=
  let extra : Int := (s.dishes[d].desc.pDrive : Int) - s.drive[d].level
  if extra ≤ s.pStow then startStow d (grantDrive d .stow s.dishes[d].desc.pDrive (shedForStow extra s))
  else goStopping d false s

/-! ### A cell's state, its visits and its hold-down (R104, R106, R113, R123) -/

/-- TABLE 6.5: what the stow entry visit does with a dish. -/
def enterStow (d : DishNo) (s : State) : State :=
  match s.dishes[d].motion with
  | .free => joinQueue d s
  | .locked => if (s.coverage d).el then s else joinQueue d s
  | .member =>
    match s.memberOf d with
    | some (g, m) => removeMember g d .stow (if m.sub = .moving then convertOrHold d else settle d) s
    | none => s
  | .stopping =>
    match s.memberOf d with
    | some (g, _) => removeMember g d .stow id s
    | none => s
  | _ => s

/-- R113: the stow entry visit of a cell, and its one serve. -/
def entryVisit (c : CellNo) (s : State) : State := serve ((s.cellDishes c).foldl (fun t d => enterStow d t) s)

/-- R123: what the leaving visit does with a dish. -/
def leaveStow (d : DishNo) (s : State) : State :=
  match s.dishes[d].motion with
  | .stowQueued => settle d (leaveQueue d s)
  | .stowed => settle d s
  | _ => s

/-- R123: the leaving visit of a cell, and its one serve. -/
def leavingVisit (c : CellNo) (s : State) : State := serve ((s.cellDishes c).foldl (fun t d => leaveStow d t) s)

/-- R106: judges a cell's state; a change raises STOW_CHANGED, and entering or leaving STOW makes the visit. -/
def judgeCell (c : CellNo) (s : State) : State :=
  let old := s.cells[c].state
  let new := judgedState s.cells[c].reasons s.cells[c].mean s.cells[c].limits.watch
  if new = old then s
  else
    let s1 := raise .stowChanged [c.val] (s.modCell c (fun x => { x with state := new }))
    if new = .stow then entryVisit c s1
    else if old = .stow then leavingVisit c s1
    else s1

/-- R102, R104: WIND is added or re-added, which sets the hold-down to its limit. -/
def Cell.addWind (c : Cell) : Cell :=
  { c with reasons := { c.reasons with wind := true }, holdDown := some c.limits.holdDown }

/-- R102, R104: a qualified gust adds GUST and keeps the peak, and sets the hold-down to its limit. -/
def Cell.addGust (c : Cell) : Cell :=
  { c with
    reasons := { c.reasons with gust := true }
    holdDown := some c.limits.holdDown
    peak := if c.reasons.gust then some (max (c.peak.getD 0) (c.runHigh.getD 0)) else c.runHigh }

/-- R103, R104: SENSOR is added or re-added, which sets the hold-down to its limit. -/
def Cell.addSensor (c : Cell) : Cell :=
  { c with reasons := { c.reasons with sensor := true }, holdDown := some c.limits.holdDown, sensorLost := true, goodRounds := 0 }

/-! ### The melt lockout (R137, R147) -/

/-- R137, R147: a dish gains MELT coverage: demand and grant become 0, HEAT OFF is posted whatever the window, and the window becomes
OFF. A reservation above 0 makes the free-power signal due. -/
def meltLockout (d : DishNo) (s : State) : State :=
  let s1 := (s.modCircuit d (fun c => { c with demand := 0, window := none })).modGrant d (fun g => { g with duty := 0 })
  let s2 := postHeat d false s1
  if s.grants[d].reservation = 0 then s2 else s2.markServe

/-! ### Running a request (R183 to R187) -/

/-- R183: a frame whose length and check hold is taken into the request queue, or refused for want of room. A parameter list too long
for any length byte is a BAD_FRAME. -/
def takeFrame (r : Request) (s : State) : State :=
  if 64 < r.params.length + 4 then s.modPort (fun p => { p with lastFrame := .badFrame })
  else if Config.requestSlots ≤ s.port.queue.length || Config.answerSlots ≤ s.outstanding + s.waiting then
    s.modPort (fun p => { p with lastFrame := .refusedFull })
  else s.modPort (fun p => { p with lastFrame := .taken, queue := p.queue ++ [r] })

/-- What a request command comes to: its run begins, or its frame is held (queued behind others, or not taken). -/
inductive Begun where
  | run (s : State)
  | held (s : State)
  deriving DecidableEq, Repr

/-- R185: it is a request's turn: its run has begun and has not ended, or no request is running and it stands at the head of the queue. -/
def State.turnOf (s : State) (r : Request) : Bool :=
  s.port.running == some r || (s.port.running.isNone && s.port.queue.head? == some r)

/-- R185: the request at the head is removed from the queue and its run begins. -/
def startRun (s : State) : State := s.modPort (fun p => { p with queue := p.queue.tail, running := p.queue.head? })

/-- R185: what a request command does first. On the request's turn its run begins, if it has not begun already. Otherwise the command
stands for its frame's arrival (R183): into an empty port, where its run begins at once, or behind the requests that run or wait (log
entry 7). -/
def beginRequest (r : Request) (s : State) : Begun :=
  let s1 := if s.turnOf r then s else takeFrame r s
  if s1.turnOf r then .run (if s1.port.running.isSome then s1 else startRun s1) else .held s1

/-- What a run answers: a status and results, or none for an accepted SPOT READING (R185). -/
abbrev Reckoned := State × Option (Status × List Byte)

/-- An answer without results. -/
def answered (s : State) (st : Status) : Reckoned := (s, some (st, []))

/-- An answer with results. -/
def answeredWith (s : State) (st : Status) (results : List Byte) : Reckoned := (s, some (st, results))

/-- R185, R187: the end of a run: its answer, if it gives one, joins the tail of the answer queue. -/
def endRequest (r : Request) (out : Reckoned) : State :=
  out.1.modPort (fun p =>
    { p with
      running := none
      answers :=
        match out.2 with
        | some (st, results) => p.answers ++ [⟨r.code, r.label, st, results⟩]
        | none => p.answers })

/-- R185, R186: a request command: the run of its request by `body`, or BAD_VALUE for a length its code does not allow. -/
def runRequest (r : Request) (body : State → Reckoned) (s : State) : Host.Outcome State Fault Refusal :=
  match beginRequest r s with
  | .held s1 => .next s1
  | .run s1 =>
    .next (endRequest r
      (if (frameLengths r.code.toNat).contains (r.params.length + 4) then body s1 else answered s1 .badValue))

end Machine
end Sys2Proof
end

