-- ==== Sys2Proof/Machine/Encode.lean ====
section
/-! DEFINITION. The records as answers carry them (R194): the fields in the order their rule or their table lists them, each in the
smallest whole-byte width that holds its range. Where the manual leaves a layout open, the choice is log entry 5. -/

namespace Sys2Proof
namespace Machine

/-- The low 32 bits of a site time. -/
def putSiteTime (s : State) : List Byte := put32 s.siteTime

/-- The description fields of TABLE 1.1 after present. -/
def putDescription (x : Description) : List Byte :=
  put8 x.cell.val ++ put8 x.zone.val ++ putAngle x.az.lower ++ putAngle x.az.upper ++ put24 x.el.lower.toNat ++
  put24 x.el.upper.toNat ++ put16 x.az.vMax ++ put16 x.el.vMax ++ put16 x.az.aMax ++ put16 x.el.aMax ++ put8 x.pDrive ++
  put8 x.pMelt ++ put24 x.stowEl.toNat

/-- The observed status of TABLE 1.1, each field marked absent where no good reply has been taken. -/
def putObserved : Option Observed → List Byte
  | none => put8 0 ++ put8 0 ++ put8 0 ++ put8 0 ++ put8 0
  | some o =>
    put8 1 ++ putAngles o.position ++ put8 1 ++ put8 o.azState.number ++ put8 1 ++ put8 o.elState.number ++
    put8 1 ++ put8 o.fault.number ++ put8 1 ++ firstOfTwo o.heaterOn

/-- The dish record with its copies (R20). -/
def putDish (s : State) (d : DishNo) : List Byte :=
  let r := s.dishes[d]
  putFlag r.present ++ putDescription r.desc ++ put8 r.motion.number ++ putFlag r.returnMark ++
  putOption (fun g => put8 g.val) r.group ++ putOption putAngles r.targets ++ putOption (fun c => put8 c.number) r.cutReason ++
  putOption put16 r.quiet ++ putObserved r.observed ++ putCoverage (s.coverage d) ++ putFlag (s.stowDemand d) ++
  putOption (fun b => put8 b.number) (s.blocked d) ++ putFlag (s.iced d)

/-- An entry of a motion order list (R178): its place among SETPOINT, HOLD, CUT, and a SETPOINT's kind and axes. -/
def putOrder : Order → List Byte
  | .setpoint sp =>
    put8 0 ++ put8 (match sp.kind with | .slew _ => 0 | .stow => 1) ++
    putAngle sp.az.target ++ put16 sp.az.rate ++ put16 sp.az.accel ++
    putAngle sp.el.target ++ put16 sp.el.rate ++ put16 sp.el.accel
  | .hold => put8 1
  | .cut => put8 2

/-- The heat slot: empty, ON or OFF (TABLE 9.2). -/
def putHeat : Option Bool → List Byte
  | none => put8 0
  | some true => put8 1
  | some false => put8 2

/-- The engine's state for a dish (R178). -/
def putBus (b : BusRecord) : List Byte :=
  put8 b.link.number ++ put8 b.failures ++ putOption (fun x => put8 x.number) b.lastStage ++ put16 b.goodCount ++
  putOption put8 b.countdown ++ putFlag b.fresh ++ putList putOrder b.orders ++ putHeat b.heat ++ putFlag b.inFlight.isSome

/-- A member entry (TABLE 3.2). -/
def putMember (m : Member) : List Byte :=
  put8 m.dish.val ++ putOption (fun o => putInt16 o.az ++ putInt16 o.el) m.offsets ++ put8 m.sub.number ++ putFlag m.clamped ++
  putOption (fun p => put16 p.azRate ++ put16 p.azAccel ++ put16 p.elRate ++ put16 p.elAccel) m.profile ++
  putOption putAngles m.targets ++ putOption put32 m.start ++ putOption put32 m.deadline ++ putOption putClock m.arrival

/-- A group record in the order R59 lists it. -/
def putGroup (g : GroupNo) (gr : Group) : List Byte :=
  put8 g.val ++ put8 gr.state.number ++ put24 gr.target.az.toNat ++ put24 gr.target.el.toNat ++
  putOption putClock gr.startStamp ++ putOption put32 gr.tMove ++ putOption put32 gr.tG ++ putOption put32 gr.startInstant ++
  putList putMember gr.members ++ putList (fun e => put8 e.1.val ++ put8 e.2.number) gr.removals

/-- A power figure that has no range of its own: two bytes (R194). -/
def putPower (p : Int) : List Byte := putInt16 p

/-- The reservation table's items for one dish, in the order R84 lists them. -/
def putReservation (s : State) (d : DishNo) : List Byte :=
  put8 s.drive[d].level ++ putOption (fun k => put8 k.number) s.drive[d].kind ++ put8 s.grants[d].duty ++
  put8 s.grants[d].rate ++ putPower s.grants[d].reservation

/-- The reservation table in the order R84 lists it. R194 puts a count before a list; R84's "for each dish 0 … 47" is taken as a series of
fixed length without a count (log entry 5, the model's choice). -/
def putBudget (s : State) : List Byte :=
  put16 s.feed.capacity ++ put8 s.feed.meltFloor ++ putPower (sumDrive s.drive) ++ putPower (sumMelt s.grants) ++
  putPower s.pFree ++ putPower s.pAvail ++ putPower s.pStow ++ putFlag s.feed.overload ++ put8 s.feed.overRun ++
  put8 s.feed.quietRun ++ putOption put16 s.feed.lMeas ++ putFlag s.feed.lost ++ put8 s.feed.pass2.val ++
  put32 s.nextBoundary ++ allDishes.flatMap (putReservation s)

/-- A converted value: two bytes, signed for a temperature; wet is 0 and dry is 1 (TABLE 5.3). -/
def putConverted : Converted → List Byte
  | .number v => putInt16 v
  | .wetness wet => firstOfTwo wet

/-- A raw value: two bytes. -/
def putRaw (r : Raw) : List Byte := put16 r.toNat

/-- A channel record (TABLE 5.2). -/
def putChannel (c : Channel) : List Byte :=
  putOption putRaw c.lastRaw ++ putOption putConverted c.value ++ put8 c.status.number ++ put8 c.bad ++ put16 c.age ++ putFlag c.lost

/-- The scan as LOOK UP CHANNELS shows it (R99); a waiting spot is stage 0, a converting one stage 1 (TABLE 5.3a). The 16 channel records
are taken as a series of fixed length without a count (log entry 5, the model's choice). -/
def putScan (x : Scan) : List Byte :=
  (List.finRange 16).flatMap (fun k => putChannel x.channels[k]) ++ put8 x.mode.number ++ put8 x.outRun ++ put8 x.inRun ++
  putOption (fun p => put8 p.chan.val ++ put8 p.converting.toNat) x.spot ++ putOption put32 x.lastEnd

/-- The five limits of a cell, each in the width of the range R107 gives it: TABLE 6.1 itself gives the limits none, and R194 does not say
whether a range that only the setting request's rule gives counts as the record's (log entry 5, the model's choice; without a range the
hold-down, a time, would take 4 bytes). -/
def putLimits (l : WindLimits) : List Byte :=
  put16 l.watch ++ put16 l.stowMean ++ put16 l.gust ++ put16 l.release ++ put24 l.holdDown

/-- A cell record with its three counts (TABLE 6.1). The hold-down remaining, 0 … hold-down limit, takes the limit's 3 bytes (log entry 5, the
model's choice). -/
def putCell (s : State) (c : CellNo) : List Byte :=
  let x := s.cells[c]
  put16 x.mean ++ putOption put16 x.last ++ put8 x.gustRun ++ putOption put16 x.runHigh ++ putOption put16 x.peak ++
  put8 x.state.number ++ putReasons x.reasons ++ putOption put24 x.holdDown ++ putFlag x.sensorLost ++ put8 x.goodRounds ++
  putLimits x.limits ++ put8 (s.stowingCount c) ++ put8 (s.stowedCount c) ++ put8 (s.blockedCount c)

/-- A present dish of a cell: number, motion state, stow blocked reason (R125). -/
def putCellDish (s : State) (d : DishNo) : List Byte :=
  put8 d.val ++ put8 s.dishes[d].motion.number ++ putOption (fun b => put8 b.number) (s.blocked d)

/-- A stow move record (TABLE 6.2), which gives neither T nor M a range: each is a time span of 4 bytes (R194). -/
def putStowMove (d : DishNo) (m : StowMove) : List Byte :=
  put8 d.val ++ put32 m.time ++ put32 m.margin ++ putOption put32 m.start ++ putOption put32 m.deadline

/-- The detector state: its place in TABLE 6.2, and the count of SYNC or CODE. -/
def putDetector : Detector → List Byte
  | .disabled => put8 0 ++ put8 0
  | .sync n => put8 1 ++ put8 1 ++ put8 n
  | .code p => put8 2 ++ put8 1 ++ put8 p

/-- The stow move records of the STOWING dishes of a cell, each with its dish. -/
def cellMoves (s : State) (c : CellNo) : List (DishNo × StowMove) :=
  (s.cellDishes c).filterMap (fun d => if s.dishes[d].motion = .stowing then s.stowMoves[d].map (fun m => (d, m)) else none)

/-- A cell as LOOK UP CELL shows it (R125); the STOW line is "driven or not driven" (TABLE 6.2), so driven is 0 (R194). -/
def putCellLookUp (s : State) (c : CellNo) : List Byte :=
  putCell s c ++ putList (putCellDish s) (s.cellDishes c) ++ putList (fun e => putStowMove e.1 e.2) (cellMoves s c) ++
  putList (fun d => put8 d.val) s.stowQueue ++ firstOfTwo s.stowLine ++ put16 s.siteCode.toNat ++ putDetector s.detector ++
  putSiteTime s

/-- A melt circuit record (TABLE 7.1). -/
def putCircuit (s : State) (d : DishNo) : List Byte :=
  let c := s.circuits[d]
  put8 c.mode.number ++ put8 c.forcedDuty ++ put8 c.demand ++ put8 s.grants[d].duty ++ put16 (windowOffset d) ++
  firstOfTwo c.window.isSome ++ putOption (fun w => put32 w.opened) c.window ++ putOption (fun w => put32 w.closes) c.window ++
  putOption (fun w => put8 w.kind.number) c.window ++ put16 c.arrears ++ putFlag c.iced

/-- The six site settings as SET MELT LIMITS carries them (TABLE 7.3); the watch elevation floor's range is not negative, and its three
bytes are the same read as an angle. -/
def putSettings (s : State) : List Byte := limitsParams ⟨s.feed.meltFloor, s.settings⟩

/-- A precipitation sensor: its latest reading and wet run (R142). -/
def putPrecip (p : Precip) : List Byte := putOption firstOfTwo p.reading ++ put8 p.run

/-- A melt circuit with its inputs as LOOK UP MELT shows them (R142). "The latest reading and wet run of each precipitation sensor" is taken
sensor by sensor: reading and wet run of the first, then of the second (log entry 5, the model's choice; in the row order of TABLE 7.2 both
readings would come first). -/
def putMeltLookUp (s : State) (d : DishNo) : List Byte :=
  let zone := s.dishes[d].desc.zone
  putCircuit s d ++ put8 s.grants[d].rate ++ putPower s.grants[d].reservation ++
  put8 zone.val ++ putOption putInt16 s.meltWeather.zones[zone].temp ++ put8 s.meltWeather.zones[zone].status.number ++
  putOption (fun o => firstOfTwo o.heaterOn) s.dishes[d].observed ++ putFlag (s.linked d) ++
  firstOfTwo s.meltWeather.on ++ putPrecip s.meltWeather.precip[(0 : SensorNo)] ++ putPrecip s.meltWeather.precip[(1 : SensorNo)] ++
  putOption put24 s.meltWeather.linger ++ putSettings s ++ put32 s.nextBoundary ++ putSiteTime s

/-- A tag record (TABLE 8.1). -/
def putTag (k : TagNo) (t : Tag) : List Byte :=
  put8 k.val ++ put16 t.holder ++ put8 t.dish.val ++ put8 t.scope.number ++ put8 t.state.number ++ putClock t.stamp

/-- The tags naming a dish, in slot order. -/
def tagsOn (s : State) (d : DishNo) : List (TagNo × Tag) :=
  allTags.filterMap (fun k =>
    match s.tags[k] with
    | some t => if t.dish = d then some (k, t) else none
    | none => none)

/-- The empty slots of the tag table, in slot order. -/
def emptySlots (s : State) : List TagNo := allTags.filter (fun k => s.tags[k].isNone)

/-- A tag as LIST TAGS shows it (R158). -/
def putListedTag (e : TagNo × Tag) : List Byte :=
  put8 e.1.val ++ put16 e.2.holder ++ put8 e.2.scope.number ++ put8 e.2.state.number

/-- A condition as READ CONDITIONS reports it: the flag, and for a condition with items its items in rising number (R189). -/
def putCondition (k : Fin 9) (c : CondRecord) : List Byte :=
  putFlag c.flag ++ if k.val < 6 then putList (fun n => put8 n) c.items else []

/-- The nine conditions in the order of TABLE 10.4. -/
def putConditions (p : Port) : List Byte := (List.finRange 9).flatMap (fun k => putCondition k p.conditions[k])

/-- The port status byte (TABLE 11.3). -/
def statusByte (s : State) : Byte :=
  BitVec.ofNat 8
    (s.port.lastFrame.number * 64 + s.slotsFree * 8 + (!s.port.answers.isEmpty).toNat * 4 + s.port.conditionPending.toNat * 2)

end Machine
end Sys2Proof
end

