-- ==== Sys2Proof/Machine/Melt.lean ====
section
/-! DEFINITION. Snow melting (Chapter 7) and the melt grants of a heater boundary (section 4.7): weather inputs, arrears and icing, the
boundary, heater windows, and the melt requests. -/

namespace Sys2Proof
namespace Machine

/-! ### Weather inputs (R128 to R130) -/

/-- R128: a temperature sample replaces the zone temperature with its reading and records its status. -/
def zoneSample (z : ZoneNo) (temp : Option Int) (status : ChanStatus) (s : State) : State :=
  s.modWeather (fun w => { w with zones := w.zones.set z ⟨temp, status⟩ })

/-- R129: the wet run after a reading. -/
def nextRun (wet : Bool) (run : Nat) : Nat := if wet then min Config.wetRounds (run + 1) else 0

/-- R129, R130: a precipitation reading. -/
def MeltWeather.precipReading (k : SensorNo) (wet : Bool) (linger : Nat) (w : MeltWeather) : MeltWeather :=
  let run := nextRun wet w.precip[k].run
  let w1 := { w with precip := w.precip.set k ⟨some wet, run⟩ }
  if w.on then (if wet then { w1 with linger := some linger } else w1)
  else if run = Config.wetRounds then { w1 with on := true, linger := some linger }
  else w1

/-- R129: a precipitation sample reaches the melt controller. -/
def precipSample (k : SensorNo) (wet : Bool) (s : State) : State :=
  s.modWeather (MeltWeather.precipReading k wet s.settings.snowLinger)

/-- R130: the linger has reached 0 while melt weather is on. -/
def lingerOver (s : State) : Bool := s.meltWeather.on && s.meltWeather.linger == some 0

/-- LINGER_EXPIRY: melt weather turns off (R130); overtaken otherwise (R19). -/
def execLingerExpiry (s : State) : Host.Outcome State Fault Refusal :=
  .next (if lingerOver s then s.modWeather (fun w => { w with on := false, linger := none }) else s)

/-! ### Arrears and icing (R139, R140) -/

/-- R139: the arrears after a period with demand d and grant g. -/
def nextArrears (arrears d g : Nat) : Nat :=
  if g < d then min Config.maxArrears (arrears + (d - g))
  else if 0 < d then arrears - 2
  else arrears - 4

/-- R139: closes a circuit's arrears. -/
def closeArrears (d : DishNo) (s : State) : State :=
  s.modCircuit d (fun c => { c with arrears := nextArrears c.arrears c.demand s.grants[d].duty })

/-- R140: the ICED flag against an ice limit. -/
def judgedIced (limit arrears : Nat) (iced : Bool) : Bool :=
  if limit ≤ arrears then true else if 2 * arrears < limit then false else iced

/-- R140: judges a circuit's ICED flag; a flag that sets raises ICED for the dish. -/
def judgeIced (d : DishNo) (s : State) : State :=
  let new := judgedIced s.settings.iceLimit s.circuits[d].arrears s.circuits[d].iced
  let s1 := s.modCircuit d (fun c => { c with iced := new })
  if new && !s.circuits[d].iced then raise .iced [d.val] s1 else s1

/-- R131, R132: computes a circuit's demand afresh. -/
def computeDemand (d : DishNo) (s : State) : State := s.modCircuit d (fun c => { c with demand := s.demandOf d })

/-! ### The boundary grants (R76 to R78) -/

/-- R77: one circuit in pass 1: the floor share min(d, f), if its reservation fits the budget left. -/
def pass1Step (floor : Nat) (demands : DishNo → Nat) (acc : Nat × Vector MeltGrant 48) (d : DishNo) : Nat × Vector MeltGrant 48 :=
  let share := min (demands d) floor
  let cost := meltReservation acc.2[d].rate share
  if 0 < demands d && cost ≤ acc.1 then (acc.1 - cost, acc.2.set d { acc.2[d] with duty := share }) else acc

/-- R78: the largest duty in g + 1 … g + k whose extra reservation fits the budget; g if there is none. -/
def largestRaise (rate budget g : Nat) : Nat → Nat
  | 0 => g
  | k + 1 =>
    if meltReservation rate (g + (k + 1)) - meltReservation rate g ≤ budget then g + (k + 1) else largestRaise rate budget g k

/-- R78: one circuit in pass 2: raised towards its demand as far as the budget left allows. -/
def pass2Step (demands : DishNo → Nat) (acc : Nat × Vector MeltGrant 48) (d : DishNo) : Nat × Vector MeltGrant 48 :=
  let g := acc.2[d].duty
  let raised := largestRaise acc.2[d].rate acc.1 g (demands d - g)
  (acc.1 - (meltReservation acc.2[d].rate raised - meltReservation acc.2[d].rate g), acc.2.set d { acc.2[d] with duty := raised })

/-- The dish k places after a dish in rising order, wrapping from 47 to 0. -/
def dishAfter (start k : DishNo) : DishNo := ⟨(start.val + k.val) % 48, Nat.mod_lt _ (by omega)⟩

/-- R76: every circuit's new melt rate and a duty of 0; circuits of dishes not present get a rate of 0. -/
def freshGrants (s : State) : Vector MeltGrant 48 :=
  allDishes.foldl
    (fun (v : Vector MeltGrant 48) (d : DishNo) => v.set d ⟨0, if s.dishes[d].present then s.dishes[d].desc.pMelt else 0⟩) s.grants

/-- R76: the melt budget of a boundary. -/
def meltBudget (s : State) : Nat := if s.stowQueue.isEmpty then s.feed.capacity - sumDrive s.drive else 0

/-- R76 to R78: the grants of a boundary against the circuits' demands; nothing while the overload-shed flag is set. -/
def boundaryGrants (s : State) : Vector MeltGrant 48 :=
  let fresh := freshGrants s
  if s.feed.overload then fresh
  else
    let demands : DishNo → Nat := fun d => s.circuits[d].demand
    let one := allDishes.foldl (pass1Step s.feed.meltFloor demands) (meltBudget s, fresh)
    ((allDishes.map (dishAfter s.feed.pass2)).foldl (pass2Step demands) one).2

/-- R76: the grants are replaced; a reservation that ends lower makes the free-power signal due; the pass-2 start advances. -/
def grantMelt (s : State) : State :=
  let new := boundaryGrants s
  let s1 := { s with grants := new }.modFeed (fun f => { f with pass2 := dishAfter f.pass2 1 })
  if allDishes.any (fun d => new[d].reservation < s.grants[d].reservation) then s1.markServe else s1

/-- R135: schedules a circuit's windows for the period that begins now. -/
def scheduleWindow (d : DishNo) (s : State) : State :=
  let s1 := s.modCircuit d (fun c => { c with ownOpened := false })
  match s1.circuits[d].window with
  | none => s1
  | some w =>
    let closes := min w.closes (s1.siteTime + s1.grants[d].duty * Config.sixteenth)
    if closes ≤ s1.siteTime then closeWindow d s1
    else s1.modCircuit d (fun c => { c with window := some { w with closes := closes, kind := .carried } })

/-- R134: a heater boundary, as one event. -/
def heaterBoundary (s : State) : State :=
  let s1 := if s.siteTime = 0 then s else forDishes closeArrears s
  let s2 := forDishes judgeIced s1
  let s3 := forDishes computeDemand s2
  let s4 := (grantMelt s3).modWeather (fun w => { w with lastBoundary := some s.siteTime })
  serveIfDue (forDishes scheduleWindow s4)

/-- R134: a boundary is due: site time is a multiple of 1 600 cs whose boundary has not been taken. -/
def boundaryDue (s : State) : Bool :=
  s.siteTime % Config.heaterPeriod == 0 && s.meltWeather.lastBoundary != some s.siteTime

/-- HEATER_BOUNDARY; nothing happens at any other instant. -/
def execHeaterBoundary (s : State) : Host.Outcome State Fault Refusal := .next (if boundaryDue s then heaterBoundary s else s)

/-! ### Windows (R135) -/

/-- R135: an ON window has reached its closing instant. -/
def closeDue (s : State) (d : DishNo) : Bool :=
  match s.circuits[d].window with
  | some w => w.closes ≤ s.siteTime
  | none => false

/-- WINDOW_OPEN: the period's own window opens at its offset, a carried window that closes at the same instant first (R135);
nothing happens at any other instant. -/
def execWindowOpen (d : DishNo) (s : State) : Host.Outcome State Fault Refusal :=
  .next (if !s.ownDue d then s else if s.circuits[d].window.isSome then closeWindow d s else openWindow d s)

/-- WINDOW_CLOSE; nothing happens before the closing instant. -/
def execWindowClose (d : DishNo) (s : State) : Host.Outcome State Fault Refusal :=
  .next (if closeDue s d then closeWindow d s else s)

/-! ### Requests (R127, R133, R142) -/

/-- R133: sets the mode of a circuit, its forced duty in FORCED, its demand, and lowers its grant where the demand has fallen below. -/
def setModeOf (mode : MeltMode) (duty : Nat) (d : DishNo) (s : State) : State :=
  lowerToDemand d
    (computeDemand d
      (s.modCircuit d (fun c => { c with mode := mode, forcedDuty := if mode = .forced then duty else c.forcedDuty })))

/-- R133: the dishes a SET MELT MODE byte names: one, or all for 0xFF. -/
def dishesNamed (n : Nat) : Option (List DishNo) := if n = 0xFF then some allDishes else (asFin 48 n).map (fun d => [d])

/-- The duty byte of a SET MELT MODE answer: the duty taken in FORCED; in the other modes, which take none, a free value (log entry 1). -/
def dutyAnswer (mode : MeltMode) (duty : Nat) (s : State) : List Byte :=
  if mode = .forced then put8 duty else [Config.freeByte s.freeCount]

/-- R133: SET MELT MODE. -/
def setMeltMode (a : ModeArgs) (s : State) : Reckoned :=
  match dishesNamed a.dish, modeOf a.mode with
  | some ds, some mode =>
    if mode = .forced && a.duty = 0 then answered s .badValue
    else
      let duty := min 16 a.duty
      let s1 := serveIfDue (ds.foldl (fun t d => setModeOf mode duty d t) s)
      let s2 := if mode = .forced then s1 else { s1 with freeCount := s1.freeCount + 1 }
      answeredWith s2 .ok
        (put8 mode.number ++ dutyAnswer mode duty s1 ++ putFlag (mode = .forced && 16 < a.duty) ++
          match ds with
          | [d] => put8 s2.circuits[d].demand ++ put8 s2.grants[d].duty
          | _ => [])
  | _, _ => answered s .badValue

/-- TABLE 7.3: the six settings are in range. -/
def settingsValid (a : LimitsArgs) : Bool :=
  a.meltFloor ≤ 8 && (16 ≤ a.settings.iceLimit && a.settings.iceLimit ≤ 1023) &&
  (1000 ≤ a.settings.snowLinger && a.settings.snowLinger ≤ 720000) && a.settings.settleMargin ≤ 1000 &&
  (1 ≤ a.settings.arrivalWindow && a.settings.arrivalWindow ≤ 1000) &&
  (5000 ≤ a.settings.watchFloor && a.settings.watchFloor ≤ 90000)

/-- R127: the six settings are replaced, the linger is lowered to the new snow linger, and every ICED flag is judged again. -/
def replaceSettings (a : LimitsArgs) (s : State) : State :=
  let s1 := { s with settings := a.settings }.modFeed (fun f => { f with meltFloor := a.meltFloor })
  forDishes judgeIced (s1.modWeather (fun w => { w with linger := w.linger.map (fun l => min l a.settings.snowLinger) }))

/-- R127: SET MELT LIMITS. -/
def setMeltLimits (a : LimitsArgs) (s : State) : Reckoned :=
  if settingsValid a then answeredWith (replaceSettings a s) .ok (putSettings s) else answered s .badValue

/-- R142: LOOK UP MELT. -/
def lookUpMelt (dish : Nat) (s : State) : Reckoned :=
  match asFin 48 dish with
  | none => answered s .badValue
  | some d => answeredWith s .ok (putMeltLookUp s d)

/-- SET_MELT_MODE. -/
def execSetMeltMode (label : Byte) (params : List Byte) (s : State) : Host.Outcome State Fault Refusal :=
  runRequest ⟨0x50, label, params⟩ (setMeltMode (readMode params)) s

/-- SET_MELT_LIMITS. -/
def execSetMeltLimits (label : Byte) (params : List Byte) (s : State) : Host.Outcome State Fault Refusal :=
  runRequest ⟨0x51, label, params⟩ (setMeltLimits (readLimits params)) s

/-- LOOK_UP_MELT. -/
def execLookUpMelt (label : Byte) (params : List Byte) (s : State) : Host.Outcome State Fault Refusal :=
  runRequest ⟨0x52, label, params⟩ (lookUpMelt (field8 params 0)) s

end Machine
end Sys2Proof
end

