-- ==== Sys2Proof/Machine/Bus.lean ====
section
/-! DEFINITION. The drive bus (Chapter 9): poll rounds, visits, probes, the end of a transaction, and what the dish table, the group
table, the stow controller and the tag table do with a reply. -/

namespace Sys2Proof
namespace Machine

/-! ### Poll rounds and visits (R163, R164, R166) -/

/-- R163: a round visits this dish: it is present, and ACTIVE or LOST with its countdown at 0. -/
def State.toVisit (s : State) (d : DishNo) : Bool :=
  s.dishes[d].present && (s.linked d || s.bus[d].countdown == some 0)

/-- No transaction of the segment is under way. -/
def State.lineFree (s : State) (g : SegNo) : Bool := (segDishes g).all (fun d => s.bus[d].inFlight.isNone)

/-- R163: the dish that the current round of a segment visits next, in rising drive address. -/
def State.nextVisit (s : State) (g : SegNo) : Option DishNo :=
  if s.engines[g].roundStart.isSome && s.lineFree g then
    (segDishes g).find? (fun d => s.engines[g].nextAddr ≤ addrOf d && s.toVisit d)
  else none

/-- R163: every visit of an engine's round has been made and has ended. -/
def State.roundOver (s : State) (g : SegNo) : Bool := s.lineFree g && (s.nextVisit g).isNone

/-- R163: a poll round of an engine is due: site time is a multiple of 10 cs at which it has not begun a round, and every visit of the
round before has ended. -/
def pollDue (s : State) (g : SegNo) : Bool :=
  s.siteTime % Config.pollPeriod == 0 && s.engines[g].roundStart != some s.siteTime && s.roundOver g

/-- R163: the probe countdown of a present dish whose link is LOST falls by one as a round begins. -/
def countDown (d : DishNo) (s : State) : State :=
  if s.dishes[d].present && !s.linked d then s.modBus d (fun b => { b with countdown := b.countdown.map (fun n => n - 1) }) else s

/-- R163: a poll round begins. -/
def beginPoll (g : SegNo) (s : State) : State :=
  (segDishes g).foldl (fun t d => countDown d t) (s.modEngine g (fun _ => ⟨some s.siteTime, 0⟩))

/-- POLL_ROUND_START; nothing happens at any other instant, or while a visit of the round before is still to be made or to end. -/
def execPollRoundStart (g : SegNo) (s : State) : Host.Outcome State Fault Refusal :=
  .next (if pollDue s g then beginPoll g s else s)

/-- R164: what a visit sends. -/
def BusRecord.choice (b : BusRecord) : Sent :=
  if b.fresh then .status
  else
    match b.orders, b.heat with
    | o :: _, _ => .motion o
    | [], some on => .heat on
    | [], none => .status

/-- R166: the start delay of what is sent at a site time. -/
def startDelay (now : Nat) : Sent → Nat
  | .motion (.setpoint sp) =>
    match sp.kind with
    | .slew groupStart => min Config.maxDelay (groupStart - now)
    | .stow => 0
  | _ => 0

/-- A transaction begins (section 9.6). -/
def beginTransaction (d : DishNo) (sent : Sent) (s : State) : State :=
  (s.modBus d (fun b =>
    { b with
      inFlight := some ⟨sent, orderChars (addrOf d) sent (startDelay s.siteTime sent), s.siteTime, false, false, false⟩ })).modEngine
    (segOf d) (fun e => { e with nextAddr := addrOf d + 1 })

/-- VISIT; overtaken where the round does not visit this dish next or its link is LOST. -/
def execVisit (d : DishNo) (s : State) : Host.Outcome State Fault Refusal :=
  .next (if s.nextVisit (segOf d) = some d && s.linked d then beginTransaction d s.bus[d].choice s else s)

/-- PRESENCE_PROBE; overtaken where the round does not visit this dish next or its link is ACTIVE. -/
def execPresenceProbe (d : DishNo) (s : State) : Host.Outcome State Fault Refusal :=
  .next (if s.nextVisit (segOf d) = some d && !s.linked d then beginTransaction d .probe s else s)

/-! ### What the dish table does with a reply, by the dish's motion state (R12, R14, R18, R48 to R52, R119) -/

/-- R13: the states in which a REFUSED reply cuts. -/
def MotionState.refusalCuts : MotionState → Bool
  | .free => true
  | .member => true
  | .stopping => true
  | .locked => true
  | .stowQueued => true
  | .stowing => true
  | .stowed => true
  | _ => false

/-- R12, R13: the dish is cut for a REFUSED reply; a reply that reports both axes STILL starts the quiet time (R14). -/
def refusedReply (d : DishNo) (o : Observed) (s : State) : State :=
  let s1 := cutDish d .driveRefused false s
  if o.bothStill then startQuiet d s1 else s1

/-- R12: a STOPPING dish has come to rest. -/
def stopEnded (d : DishNo) (s : State) : State :=
  let s1 := releaseDrive d s
  if s.dishes[d].returnMark then setMotion d .restrained s1
  else
    match s.dishes[d].group with
    | some g => judgeGroup g (modMember g d (fun m => { m with sub := .waiting }) (setMotion d .member s1))
    | none => settle d s1

/-- R12: a reply to a STOPPING dish. -/
def stoppingReply (d : DishNo) (o : Observed) (s : State) : State :=
  if o.bothStill then stopEnded d s else if o.anyFault then cutDish d .driveFault true s else s

/-- R48: a reply that shows a MOVING member's axes both ARRIVED and is judged for arrival, with the member's targets. -/
def memberJudged (o : Observed) (took : Bool) (m : Member) : Option Angles :=
  if m.sub = .moving && m.start.isSome && m.deadline.isSome && !took && o.bothArrived then m.targets else none

/-- R49: both axes lie within the arrival window. -/
def onTarget (window : Nat) (o : Observed) (t : Angles) : Bool :=
  withinWindow window o.position.az t.az && withinWindow window o.position.el t.el

/-- R49: a member arrives. -/
def memberArrives (g : GroupNo) (d : DishNo) (s : State) : State :=
  judgeGroup g
    (releaseDrive d (modMember g d (fun m => { m with sub := .arrived, deadline := none, arrival := some s.arrayClock }) s))

/-- R48: a reply to a MEMBER dish, less a refusal. -/
def memberReply (d : DishNo) (o : Observed) (took : Bool) (s : State) : State :=
  match s.memberOf d with
  | none => s
  | some (g, m) =>
    if o.anyFault then cutDish d .driveFault true s
    else
      match memberJudged o took m with
      | none => s
      | some t => if onTarget s.settings.arrivalWindow o t then memberArrives g d s else cutDish d .falseArrival true s

/-- R119: a reply that shows a STOWING dish's axes both ARRIVED and is judged for arrival. -/
def stowJudged (o : Observed) (took : Bool) (m : Option StowMove) : Bool :=
  !took && o.bothArrived &&
  match m with
  | some x => x.start.isSome
  | none => false

/-- R119: the observed elevation lies within the arrival window of the stow elevation. -/
def atStow (s : State) (d : DishNo) (o : Observed) : Bool :=
  withinWindow s.settings.arrivalWindow o.position.el s.dishes[d].desc.stowEl

/-- R119: a STOWING dish arrives; it is settled at once if its cell has left STOW (R15, R123). -/
def stowArrives (d : DishNo) (s : State) : State :=
  let s1 := releaseDrive d ((setMotion d .stowed s).setStowMove d none)
  if s1.stowDemand d then s1 else settle d s1

/-- R119: a reply to a STOWING dish, less a refusal. -/
def stowingReply (d : DishNo) (o : Observed) (took : Bool) (s : State) : State :=
  if o.anyFault then cutDish d .driveFault true s
  else if stowJudged o took s.stowMoves[d] then
    if atStow s d o then stowArrives d s else cutDish d .falseArrival true s
  else s

/-- R18: the reply that handles the return of an UNREACHABLE dish. -/
def returnReply (d : DishNo) (o : Observed) (s : State) : State :=
  if o.anyMoving then (goStopping d false s).modDish d (fun r => { r with returnMark := true })
  else releaseDrive d (setMotion d .restrained s)

/-- R14: the quiet time of a CUT dish after a reply; none where it has not started. -/
def nextQuiet (o : Observed) (quiet : Nat) (stopped : Bool) : Nat × Bool :=
  if o.anyFault then (if o.anyMoving then Config.quietTime else quiet, true)
  else if stopped || o.anyMoving then (Config.quietTime, false)
  else (quiet, false)

/-- R14: a reply to a CUT dish. -/
def cutReply (d : DishNo) (o : Observed) (s : State) : State :=
  match s.dishes[d].quiet with
  | none => if o.bothStill then startQuiet d s else s
  | some q =>
    s.modDish d (fun r =>
      { r with quiet := some (nextQuiet o q r.quietStopped).1, quietStopped := (nextQuiet o q r.quietStopped).2 })

/-- R3: the handling of a reply by the dish's motion state when it is taken. -/
def watchedReply (d : DishNo) (r : Reply) (took isReturn : Bool) (s : State) : State :=
  if r.refused && s.dishes[d].motion.refusalCuts then refusedReply d r.observed s
  else
    match s.dishes[d].motion with
    | .stopping => stoppingReply d r.observed s
    | .member => memberReply d r.observed took s
    | .stowing => stowingReply d r.observed took s
    | .unreachable => if isReturn then returnReply d r.observed s else s
    | .cut => cutReply d r.observed s
    | _ => s

/-! ### What the tag table does with a reply (R149, R150) -/

/-- R149: the reply ends a move by arrival: a member's (R49) or a stow's (R119). -/
def endsByArrival (d : DishNo) (r : Reply) (took : Bool) (s : State) : Bool :=
  !r.refused &&
  match s.dishes[d].motion with
  | .member =>
    match s.memberOf d with
    | some (_, m) =>
      match memberJudged r.observed took m with
      | some t => onTarget s.settings.arrivalWindow r.observed t
      | none => false
    | none => false
  | .stowing => stowJudged r.observed took s.stowMoves[d] && atStow s d r.observed
  | _ => false

/-- R149: the reply shows the dish at rest, as its handling leaves the dish before any serve. -/
def shownAtRest (d : DishNo) (o : Observed) (after : State) : Bool :=
  o.bothStill && after.dishes[d].motion != .stowing &&
  !(after.dishes[d].motion == .member && after.movingMember d)

/-- The ids of a dish's tags in a state, in slot order. -/
def tagIds (d : DishNo) (st : TagState) (s : State) : List TagNo :=
  ((tagsOn s d).filter (fun e => e.2.state = st)).map (fun e => e.1)

/-- Every tag of a dish in state `old` becomes `new`. -/
def turnTags (d : DishNo) (old new : TagState) (s : State) : State :=
  { s with
    tags := s.tags.map (fun o => o.map (fun t => if t.dish = d && t.state = old then { t with state := new } else t)) }

/-- R149: the STOPPING tags of a dish become HELD, and TAG_HELD is raised with their ids. -/
def holdTags (d : DishNo) (s : State) : State :=
  match tagIds d .stopping s with
  | [] => s
  | ids => raise .tagHeld (ids.map (fun k => k.val)) (turnTags d .stopping .held s)

/-- R149, R150: the tag table judges a reply: `before` is the state in which it was taken, `s` what its handling has left. -/
def judgeTags (d : DishNo) (r : Reply) (took isReturn : Bool) (before s : State) : State :=
  if isReturn && before.dishes[d].motion == .unreachable && r.observed.anyMoving then turnTags d .held .stopping s
  else if s.linked d && (shownAtRest d r.observed s || endsByArrival d r took before) then holdTags d s
  else s

/-! ### A good reply (R3, R35, R118, R170, R171, R175) -/

/-- R175: at the return reply the heat order that matches the window state is posted (R138). -/
def returnHeat (d : DishNo) (isReturn : Bool) (s : State) : State :=
  if isReturn then postHeat d s.circuits[d].window.isSome s else s

/-- R3: a good reply reaches the dish table: it overwrites the observed status and is handed to the owners that watch it; then the tag
table judges it, and a serve that its handling has made due is made. -/
def handleReply (d : DishNo) (r : Reply) (took isReturn : Bool) (s : State) : State :=
  let s0 := s.modDish d (fun x => { x with observed := some r.observed })
  serveIfDue (returnHeat d isReturn (judgeTags d r took isReturn s0 (watchedReply d r took isReturn s0)))

/-- R35: a taken slew SETPOINT fixes its member's start instant and deadline. -/
def slewTaken (d : DishNo) (groupStart began : Nat) (s : State) : State :=
  match s.dishes[d].motion, s.memberOf d with
  | .member, some (g, m) =>
    if m.sub = .moving then
      modMember g d (fun e =>
        { e with
          start := some (max groupStart began)
          deadline := (s.groups[g].bind Group.tG).map (fun span => max groupStart began + span) }) s
    else s
  | _, _ => s

/-- R118: a taken stow SETPOINT fixes the stow start instant and deadline. -/
def stowTaken (d : DishNo) (began : Nat) (s : State) : State :=
  if s.dishes[d].motion = .stowing then
    s.setStowMove d
      (s.stowMoves[d].map (fun m => { m with start := some began, deadline := some (began + m.time + m.margin) }))
  else s

/-- R170, step 3: the report of a SETPOINT taken. -/
def setpointTaken (d : DishNo) (sp : Setpoint) (began : Nat) (s : State) : State :=
  match sp.kind with
  | .slew groupStart => slewTaken d groupStart began s
  | .stow => stowTaken d began s

/-- R170, step 1: the counts after a good transaction. -/
def BusRecord.countGood (b : BusRecord) : BusRecord :=
  { b with failures := 0, goodCount := min Config.max16 (b.goodCount + 1) }

/-- R170, step 2: what a good ACCEPTED reply removes. -/
def BusRecord.dropSent (x : InFlight) (b : BusRecord) : BusRecord :=
  match x.sent with
  | .motion _ => if x.headGone then b else { b with orders := b.orders.tail }
  | .heat _ => if x.heatPosted then b else { b with heat := none }
  | _ => b

/-- R171: what a good REFUSED reply removes: the order sent, a motion order with its whole list. Where the reply cuts the dish, the list
goes whatever was sent, so that no motion order waits for a dish cut in this way (log entry 28). -/
def BusRecord.dropRefused (x : InFlight) (cuts : Bool) (b : BusRecord) : BusRecord :=
  match x.sent with
  | .motion _ => { b with orders := [] }
  | .heat _ => { b with orders := if cuts then [] else b.orders, heat := if x.heatPosted then b.heat else none }
  | _ => { b with orders := if cuts then [] else b.orders }

/-- R170, step 3: the SETPOINT that a good ACCEPTED reply has removed from the list. -/
def InFlight.taken (x : InFlight) : Option Setpoint :=
  match x.sent with
  | .motion (.setpoint sp) => if x.headGone then none else some sp
  | _ => none

/-- R170: a good transaction with status ACCEPTED. -/
def acceptedReply (d : DishNo) (x : InFlight) (r : Reply) (s : State) : State :=
  let s1 := s.modBus d (fun b => { b.countGood.dropSent x with fresh := false })
  let s2 :=
    match x.taken with
    | some sp => setpointTaken d sp x.began s1
    | none => s1
  handleReply d r x.taken.isSome s.bus[d].fresh s2

/-- R171: a good transaction with status REFUSED. -/
def rejectedReply (d : DishNo) (x : InFlight) (r : Reply) (s : State) : State :=
  handleReply d r false s.bus[d].fresh
    (s.modBus d (fun b => { b.countGood.dropRefused x s.dishes[d].motion.refusalCuts with fresh := false }))

/-! ### Failures, losses and probes (R172 to R174) -/

/-- R173: a link is lost. -/
def BusRecord.lose (b : BusRecord) : BusRecord :=
  { b with link := .lost, fresh := false, orders := [], heat := none, countdown := some Config.probeRounds }

/-- R173: a link is lost, and the dish with it. -/
def loseLink (d : DishNo) (s : State) : State :=
  serveIfDue (raise .dishLost [d.val] (loseDish d (s.modBus d BusRecord.lose)))

/-- R172: a failed transaction with an order or STATUS poll. -/
def failedOrder (d : DishNo) (stage : Stage) (s : State) : State :=
  let s1 := s.modBus d (fun b => { b with failures := b.failures + 1, lastStage := some stage })
  if Config.lossFailures ≤ s1.bus[d].failures then loseLink d s1 else s1

/-- R174: a failed probe. -/
def failedProbe (d : DishNo) (stage : Stage) (s : State) : State :=
  s.modBus d (fun b => { b with lastStage := some stage, countdown := some Config.probeRounds })

/-- R174: a good acknowledge. -/
def acknowledged (d : DishNo) (s : State) : State :=
  s.modBus d (fun b => { b.countGood with link := .active, countdown := none, fresh := true })

/-- R169 to R174: the end of a transaction, by what it showed. -/
def endTransaction (d : DishNo) (x : InFlight) (out : Judged) (s : State) : State :=
  match out with
  | .reply r => if r.refused then rejectedReply d x r s else acceptedReply d x r s
  | .acknowledge => acknowledged d s
  | .failed stage => if x.sent = .probe then failedProbe d stage s else failedOrder d stage s

/-- TRANSACTION_END: the transaction is judged on the characters taken (R168, R169); one whose dish was made not present is discarded
(R176); nothing happens where none is under way. -/
def execTransactionEnd (d : DishNo) (chars : List Char9) (cutShort : Bool) (s : State) : Host.Outcome State Fault Refusal :=
  match s.bus[d].inFlight with
  | none => .next s
  | some x =>
    let s1 := s.modBus d (fun b => { b with inFlight := none })
    .next (if x.orphan then s1 else endTransaction d x (judgeTransaction (addrOf d) x.sent chars cutShort) s1)

end Machine
end Sys2Proof
end

