-- ==== Sys2Proof/Machine/Dishes.lean ====
section
/-! DEFINITION. The dish requests (Chapter 1): DESCRIBE DISH, RESUME DISH, RESTRAIN DISH, LOOK UP DISH, WRITE OFF DISH, and the end of a
quiet time. -/

namespace Sys2Proof
namespace Machine

/-- A number lies in a range, both ends included. -/
def inRange (lo hi x : Int) : Bool := lo ≤ x && x ≤ hi

/-- R2, check 1: the description that the fields of a DESCRIBE DISH give, if every one lies in its range of TABLE 1.1. -/
def checkDescription (f : DescribeFields) : Option Description := do
  let cell ← asFin 8 f.cell
  let zone ← asFin 4 f.zone
  let stowEl := f.stowEl.getD 90000
  if inRange (-270000) 270000 f.azLower && inRange (-270000) 270000 f.azUpper && f.azLower < f.azUpper &&
     inRange 5000 90000 f.elLower && inRange 5000 90000 f.elUpper && f.elLower < f.elUpper &&
     inRange 1 3000 f.azVMax && inRange 1 2000 f.elVMax && inRange 1 2000 f.azAMax && inRange 1 2000 f.elAMax &&
     inRange 10 250 f.pDrive && inRange 0 150 f.pMelt && inRange f.elLower f.elUpper stowEl then
    some {
      cell := cell, zone := zone
      az := ⟨f.azLower, f.azUpper, f.azVMax, f.azAMax⟩, el := ⟨f.elLower, f.elUpper, f.elVMax, f.elAMax⟩
      pDrive := f.pDrive, pMelt := f.pMelt, stowEl := stowEl }
  else none

/-- What a DESCRIBE DISH asks for: a description, or present no. The present byte and the length have to agree (R194). -/
def describeWish (a : DescribeArgs) : Option (Option Description) :=
  match a.present, a.fields with
  | 0, none => some none
  | 1, some f => (checkDescription f).map some
  | _, _ => none

/-- R176: the engine begins presence probing of a dish newly present. -/
def beginProbing (b : BusRecord) : BusRecord :=
  { b with
    orders := [], heat := none, link := .lost, failures := 0, lastStage := none, goodCount := 0, countdown := some 1
    fresh := false }

/-- R176: the engine stops visiting a dish made not present; a transaction in flight is to be discarded. -/
def stopVisiting (b : BusRecord) : BusRecord :=
  { b with
    orders := [], heat := none, link := .lost, countdown := none, fresh := false
    inFlight := b.inFlight.map (fun x => { x with orphan := true }) }

/-- R2, R176: an accepted description with present yes. -/
def describePresent (d : DishNo) (desc : Description) (s : State) : State :=
  let s1 := s.modDish d (fun r => { r with present := true, desc := desc })
  if s.dishes[d].present then s1 else s1.modBus d beginProbing

/-- R2, R68, R141, R176: an accepted description with present no. -/
def describeAbsent (d : DishNo) (s : State) : State :=
  let s1 := s.modDish d (fun r => { r with present := false, desc := Description.default, observed := none })
  let s2 := (s1.modBus d stopVisiting).modCircuit d (fun c => { c with demand := 0, window := none })
  let s3 := s2.modGrant d (fun _ => ⟨0, 0⟩)
  if s.grants[d].reservation = 0 then s3 else s3.markServe

/-- R2: DESCRIBE DISH. -/
def describe (a : DescribeArgs) (s : State) : Reckoned :=
  match asFin 48 a.dish, describeWish a with
  | some d, some wish =>
    if s.dishes[d].motion ≠ .restrained then answered s .dishBusy
    else
      match wish with
      | some desc => answered (describePresent d desc s) .ok
      | none =>
        if (tagsOn s d).isEmpty then answered (serveIfDue (describeAbsent d s)) .ok else answered s .dishBusy
  | _, _ => answered s .badValue

/-- R7: RESUME DISH. -/
def resume (dish : Nat) (s : State) : Reckoned :=
  match asFin 48 dish with
  | none => answered s .badValue
  | some d =>
    if !s.dishes[d].present then answered s .noSuch
    else if s.dishes[d].motion ≠ .restrained then answered s .dishBusy
    else if !s.linked d then answered s .unreachable
    else if (s.dishes[d].observed.map Observed.atRest).getD false then answered (serveIfDue (settle d s)) .ok
    else answered s .dishBusy

/-- R8: RESTRAIN DISH. -/
def restrain (dish : Nat) (s : State) : Reckoned :=
  match asFin 48 dish with
  | none => answered s .badValue
  | some d =>
    if !s.dishes[d].present then answered s .noSuch
    else
      match s.dishes[d].motion with
      | .free => answered (setMotion d .restrained s) .ok
      | .locked => answered (setMotion d .restrained s) .ok
      | .restrained => answered s .ok
      | _ => answered s .dishBusy

/-- R20, R178: LOOK UP DISH. -/
def lookUpDish (dish : Nat) (s : State) : Reckoned :=
  match asFin 48 dish with
  | none => answered s .badValue
  | some d => answeredWith s .ok (putDish s d ++ putBus s.bus[d])

/-- R17: WRITE OFF DISH. -/
def writeOff (dish : Nat) (s : State) : Reckoned :=
  match asFin 48 dish with
  | none => answered s .badValue
  | some d =>
    if !s.dishes[d].present then answered s .noSuch
    else if s.dishes[d].motion ≠ .unreachable then answered s .dishBusy
    else answered (serveIfDue (releaseDrive d s)) .ok

/-- DESCRIBE_DISH. -/
def execDescribeDish (label : Byte) (params : List Byte) (s : State) : Host.Outcome State Fault Refusal :=
  runRequest ⟨0x10, label, params⟩ (describe (readDescribe params)) s

/-- RESUME_DISH. -/
def execResumeDish (label : Byte) (params : List Byte) (s : State) : Host.Outcome State Fault Refusal :=
  runRequest ⟨0x11, label, params⟩ (resume (field8 params 0)) s

/-- RESTRAIN_DISH. -/
def execRestrainDish (label : Byte) (params : List Byte) (s : State) : Host.Outcome State Fault Refusal :=
  runRequest ⟨0x12, label, params⟩ (restrain (field8 params 0)) s

/-- LOOK_UP_DISH. -/
def execLookUpDish (label : Byte) (params : List Byte) (s : State) : Host.Outcome State Fault Refusal :=
  runRequest ⟨0x13, label, params⟩ (lookUpDish (field8 params 0)) s

/-- WRITE_OFF_DISH. -/
def execWriteOffDish (label : Byte) (params : List Byte) (s : State) : Host.Outcome State Fault Refusal :=
  runRequest ⟨0x14, label, params⟩ (writeOff (field8 params 0)) s

/-- R14: a CUT dish's quiet time has run down to 0 and runs. -/
def quietEnded (s : State) (d : DishNo) : Bool :=
  s.dishes[d].motion == .cut && s.dishes[d].quiet == some 0 && !s.dishes[d].quietStopped

/-- R14: the end of a quiet time: RESTRAINED with the return mark set, settled otherwise. -/
def endQuiet (d : DishNo) (s : State) : State :=
  if s.dishes[d].returnMark then
    s.modDish d (fun r =>
      { r with motion := .restrained, cutReason := none, quiet := none, quietStopped := false, returnMark := false })
  else settle d s

/-- QUIET_TIME_END; overtaken where no quiet time has ended (R19). -/
def execQuietTimeEnd (d : DishNo) (s : State) : Host.Outcome State Fault Refusal :=
  .next (if quietEnded s d then serveIfDue (endQuiet d s) else s)

end Machine
end Sys2Proof
end

