-- ==== Sys2Proof/Machine/Planner.lean ====
section
/-! DEFINITION. The slew planning arithmetic (Chapter 2): member targets, axis and member times, the power load and its fit, scaled
profiles, and the plan that START GROUP carries out. All of it is exact integer arithmetic on one working plan (R22). -/

namespace Sys2Proof
namespace Machine

/-! ### Stage 1: member targets (R23 to R26) -/

/-- R23: an elevation sum fitted into the dish's limits. -/
def elevationTarget (sum lower upper : Int) : Int := if sum < lower then lower else if upper < sum then upper else sum

/-- R24, step 1: a sum brought into 0 … 359 999 by adding or subtracting 360 000 once. -/
def baseDirection (sum : Int) : Int := if sum < 0 then sum + 360000 else if 360000 ≤ sum then sum - 360000 else sum

/-- R24, step 2: the candidates of a base direction. -/
def candidates (t : Int) : List Int := [t - 360000, t, t + 360000]

/-- R24, step 3: whether candidate a is preferred to b: nearer the observed azimuth, then smaller in absolute value, then positive. -/
def preferred (observed a b : Int) : Bool :=
  if distance a observed ≠ distance b observed then distance a observed < distance b observed
  else if a.natAbs ≠ b.natAbs then a.natAbs < b.natAbs
  else b < a

/-- R24, step 3: the preferred one of a list of candidates. -/
def nearest (observed : Int) : List Int → Option Int
  | [] => none
  | c :: rest =>
    match nearest observed rest with
    | none => some c
    | some b => if preferred observed b c then some b else some c

/-- R25: the distance of a limit from the nearest candidate. -/
def limitDistance (limit t : Int) : Nat :=
  min (distance limit (t - 360000)) (min (distance limit t) (distance limit (t + 360000)))

/-- R25: the azimuth target when no candidate lies within the limits. -/
def clampedAzimuth (t observed lower upper : Int) : Int :=
  if limitDistance lower t < limitDistance upper t then lower
  else if limitDistance upper t < limitDistance lower t then upper
  else if distance upper observed < distance lower observed then upper
  else lower

/-- R24, R25: the azimuth target and whether it is clamped. -/
def azimuthTarget (sum observed lower upper : Int) : Int × Bool :=
  let t := baseDirection sum
  match nearest observed ((candidates t).filter (fun c => lower ≤ c && c ≤ upper)) with
  | some c => (c, false)
  | none => (clampedAzimuth t observed lower upper, true)

/-- What stages 1 and 2 give for one member. -/
structure MemberPlan where
  dish    : DishNo
  target  : Angles
  clamped : Bool
  azTime  : Nat
  elTime  : Nat
  pDrive  : Nat
  deriving DecidableEq, Repr

/-- The member time T_i: the larger axis time (R28). -/
def MemberPlan.time (p : MemberPlan) : Nat := max p.azTime p.elTime

/-- Stages 1 and 2 for one member (R23 to R27), read from the state at the run (R22). -/
def planMember (s : State) (target : Angles) (m : Member) : MemberPlan :=
  let desc := s.dishes[m.dish].desc
  let obs := s.position m.dish
  let off := m.offsets.getD ⟨0, 0⟩
  let az := azimuthTarget (target.az + off.az) obs.az desc.az.lower desc.az.upper
  let elSum := target.el + off.el
  let el := elevationTarget elSum desc.el.lower desc.el.upper
  { dish := m.dish
    target := ⟨az.1, el⟩
    clamped := az.2 || el ≠ elSum
    azTime := axisTime (distance az.1 obs.az) desc.az.vMax desc.az.aMax
    elTime := axisTime (distance el obs.el) desc.el.vMax desc.el.aMax
    pDrive := desc.pDrive }

/-- The working plan of a group, in member-list order. -/
def planGroup (s : State) (gr : Group) : List MemberPlan := gr.members.map (planMember s gr.target)

/-- T_move0: the largest member time (R28). -/
def fullTime (ps : List MemberPlan) : Nat := (ps.map MemberPlan.time).foldl max 0

/-! ### Stages 4 and 5: power load and fit (R29, R30) -/

/-- R29: the servo floor ⌈P_drive / 4⌉. -/
def servoFloor (pDrive : Nat) : Nat := ceilDiv pDrive 4

/-- R29: the load term of a member at a motion time. -/
def loadTerm (p : MemberPlan) (t : Nat) : Nat := max (ceilDiv (p.pDrive * p.time) t) (servoFloor p.pDrive)

/-- R29: the group load L(T). -/
def groupLoad (ps : List MemberPlan) (t : Nat) : Nat := (ps.map (fun p => loadTerm p t)).sum

/-- R29: the least load. -/
def leastLoad (ps : List MemberPlan) : Nat := (ps.map (fun p => servoFloor p.pDrive)).sum

/-- R30: the motion time chosen against P_avail; none is POWER_SHORT. -/
def chooseTime (ps : List MemberPlan) (avail : Int) : Option Nat :=
  let t0 := fullTime ps
  if (groupLoad ps t0 : Int) ≤ avail then some t0
  else if avail < (leastLoad ps : Int) then none
  else some (leastIn (fun t => (groupLoad ps t : Int) ≤ avail) t0 (4 * t0))

/-! ### Stage 6: scaled profiles (R32) -/

/-- R32: the scaled rate V′ of an axis. -/
def scaledRate (v axis move : Nat) : Nat := if axis = 0 then 0 else ceilDiv (v * axis) move

/-- R32: the scaled acceleration A′ of an axis. -/
def scaledAccel (a axis move : Nat) : Nat := if axis = 0 then 0 else ceilDiv (a * (axis * axis)) (move * move)

/-- R32: the scaled profile of a member at T_move. -/
def memberProfile (s : State) (p : MemberPlan) (move : Nat) : Profile where
  azRate  := scaledRate s.dishes[p.dish].desc.az.vMax p.azTime move
  azAccel := scaledAccel s.dishes[p.dish].desc.az.aMax p.azTime move
  elRate  := scaledRate s.dishes[p.dish].desc.el.vMax p.elTime move
  elAccel := scaledAccel s.dishes[p.dish].desc.el.aMax p.elTime move

/-- R33: the slew SETPOINT of a member. -/
def slewSetpoint (p : MemberPlan) (pr : Profile) (groupStart : Nat) : Setpoint where
  kind := .slew groupStart
  az := ⟨p.target.az, pr.azRate, pr.azAccel⟩
  el := ⟨p.target.el, pr.elRate, pr.elAccel⟩

/-! ### Carrying out an accepted plan (R26, R31, R33, R34, R46, R47) -/

/-- The member entry of a started member (R46). -/
def startedMember (s : State) (move : Nat) (m : Member) (p : MemberPlan) : Member :=
  { m with
    sub := .moving, clamped := p.clamped, targets := some p.target, profile := some (memberProfile s p move)
    start := none, deadline := none, arrival := none }

/-- The member entry of a start that moves nothing (R47). -/
def arrivedMember (s : State) (m : Member) (p : MemberPlan) : Member :=
  { m with
    sub := .arrived, clamped := p.clamped, targets := some p.target, profile := none
    start := none, deadline := none, arrival := some s.arrayClock }

/-- R26, R31, R33: the commanded targets, the SLEW grant and the SETPOINT of one member. -/
def carryMember (move groupStart : Nat) (p : MemberPlan) (s : State) : State :=
  postMotion p.dish (.setpoint (slewSetpoint p (memberProfile s p move) groupStart))
    (grantDrive p.dish .slew (loadTerm p move)
      (s.modDish p.dish (fun r => { r with targets := some p.target })))

/-- R31: melt shed above the floor for a load. -/
def shedForStart (load : Nat) (s : State) : State := shed s.feed.meltFloor ((load : Int) - s.pFree).toNat s

/-- R46: an accepted start that moves: shed, grant and post in member-list order, then the group record. -/
def startMoving (g : GroupNo) (gr : Group) (ps : List MemberPlan) (move : Nat) (s : State) : State :=
  let groupStart := s.siteTime + Config.groupLead
  let s1 := shedForStart (groupLoad ps move) s
  let s2 := ps.foldl (fun t p => carryMember move groupStart p t) s1
  s2.setGroup g (some
    { gr with
      state := .moving
      members := (gr.members.zip ps).map (fun mp => startedMember s move mp.1 mp.2)
      removals := []
      startStamp := some s.arrayClock
      tMove := some move
      tG := some (move + s.settings.settleMargin)
      startInstant := some groupStart })

/-- R47: an accepted start that moves nothing. -/
def startStill (g : GroupNo) (gr : Group) (ps : List MemberPlan) (s : State) : State :=
  let s1 := ps.foldl (fun t p => t.modDish p.dish (fun r => { r with targets := some p.target })) s
  raise .groupEnded [g.val]
    (s1.setGroup g (some
      { gr with
        state := .arrived
        members := (gr.members.zip ps).map (fun mp => arrivedMember s mp.1 mp.2)
        removals := []
        startStamp := some s.arrayClock
        tMove := some 0
        tG := some 0
        startInstant := none }))

/-- The dishes of a plan that carry the CLAMPED mark, in member-list order (R36). -/
def clampedDishes (ps : List MemberPlan) : List DishNo := (ps.filter (fun p => p.clamped)).map (fun p => p.dish)

/-- R36: the results of an accepted start. -/
def startResults (move span : Nat) (stretched : Bool) (ps : List MemberPlan) : List Byte :=
  put32 move ++ put32 span ++ putFlag stretched ++ putList (fun d => put8 d.val) (clampedDishes ps)

end Machine
end Sys2Proof
end

