-- ==== Sys2Proof/Machine/Groups.lean ====
section
/-! DEFINITION. The group requests (Chapter 3) and the expiry of a member deadline. -/

namespace Sys2Proof
namespace Machine

/-- A group is MOVING or HALTING. -/
def Group.underWay (gr : Group) : Bool := gr.state == .moving || gr.state == .halting

/-- A group's move or halt has ended: ARRIVED, PARTIAL or HALTED. -/
def Group.ended (gr : Group) : Bool := gr.state == .arrived || gr.state == .partially || gr.state == .halted

/-- R40: a target lies within 0 … 359 999 and 5 000 … 90 000. -/
def targetInRange (a : TargetArgs) : Bool := (0 ≤ a.az && a.az ≤ 359999) && (5000 ≤ a.el && a.el ≤ 90000)

/-- R40: a new group record. -/
def newGroup (target : Angles) : Group where
  state        := .opened
  target       := target
  members      := []
  removals     := []
  startStamp   := none
  tMove        := none
  tG           := none
  startInstant := none

/-- R40: OPEN GROUP. -/
def openGroup (a : TargetArgs) (s : State) : Reckoned :=
  match asFin 8 a.group with
  | none => answered s .badValue
  | some g =>
    if !targetInRange a then answered s .badValue
    else if s.groups[g].isSome then answered s .groupExists
    else answered (s.setGroup g (some (newGroup ⟨a.az, a.el⟩))) .ok

/-- R44: an ended group reopens; a group in any other state is left as it is. -/
def Group.reopened (gr : Group) : Group :=
  if gr.ended then
    { gr with
      state := .opened
      members := gr.members.map (fun m => { m with sub := .waiting, start := none, deadline := none, arrival := none }) }
  else gr

/-- R41: a new member entry. -/
def newMember (d : DishNo) (offsets : Option Angles) : Member where
  dish     := d
  offsets  := offsets
  sub      := .waiting
  clamped  := false
  profile  := none
  targets  := none
  start    := none
  deadline := none
  arrival  := none

/-- An offset lies in −10 000 … +10 000 (TABLE 3.2). -/
def offsetsInRange (o : Option Angles) : Bool :=
  match o with
  | none => true
  | some o => o.az.natAbs ≤ 10000 && o.el.natAbs ≤ 10000

/-- R9, R41: an accepted ADD MEMBER: the dish is admitted, the group reopens if it had ended, and the entry joins the tail. -/
def enlist (g : GroupNo) (gr : Group) (d : DishNo) (offsets : Option Angles) (s : State) : State :=
  (s.modDish d (fun r => { r with motion := .member, group := some g })).setGroup g
    (some { gr.reopened with members := gr.reopened.members ++ [newMember d offsets] })

/-- R41: ADD MEMBER. -/
def addMember (a : AddArgs) (s : State) : Reckoned :=
  match asFin 8 a.group, asFin 48 a.dish with
  | some g, some d =>
    if !offsetsInRange a.offsets then answered s .badValue
    else
      match s.groups[g] with
      | none => answered s .noSuch
      | some gr =>
        if !s.dishes[d].present then answered s .noSuch
        else if gr.underWay then answered s .groupMoving
        else if (s.memberOf d).isSome then answered s .alreadyMember
        else if (s.coverage d).motion then answered s .locked
        else if s.dishes[d].motion ≠ .free then answered s .dishBusy
        else if s.iced d then answered s .iced
        else answered (enlist g gr d a.offsets s) .ok
  | _, _ => answered s .badValue

/-- R9, R42: a member leaves at the host's request: the entry goes and the dish is settled. -/
def dropEntry (g : GroupNo) (d : DishNo) (s : State) : State :=
  settle d (s.modGroup g (fun gr => { gr with members := gr.members.filter (fun m => m.dish ≠ d) }))

/-- R42: DROP MEMBER. R42 does not order its refusals: a dish without an entry in a group that is MOVING or HALTING is answered NO_SUCH, not
GROUP_MOVING (log entry 30, the model's choice). -/
def dropMember (group dish : Nat) (s : State) : Reckoned :=
  match asFin 8 group, asFin 48 dish with
  | some g, some d =>
    match s.groups[g] with
    | none => answered s .noSuch
    | some gr =>
      if !gr.members.any (fun m => m.dish = d) then answered s .noSuch
      else if gr.underWay then answered s .groupMoving
      else answered (serveIfDue (dropEntry g d s)) .ok
  | _, _ => answered s .badValue

/-- R43: AIM GROUP. -/
def aimGroup (a : TargetArgs) (s : State) : Reckoned :=
  match asFin 8 a.group with
  | none => answered s .badValue
  | some g =>
    if !targetInRange a then answered s .badValue
    else
      match s.groups[g] with
      | none => answered s .noSuch
      | some gr =>
        if gr.underWay then answered s .groupMoving
        else answered (s.setGroup g (some { gr.reopened with target := ⟨a.az, a.el⟩ })) .ok

/-- R45: a member whose cell is in WATCH has a stage 1 elevation target below the watch elevation floor. -/
def belowWatchFloor (s : State) (ps : List MemberPlan) : Bool :=
  ps.any (fun p => s.cells[s.dishes[p.dish].desc.cell].state == .watch && p.target.el < s.settings.watchFloor)

/-- R28, R30, R36, R45: the planner's part of START GROUP: WIND_WATCH, the start that moves nothing, POWER_SHORT, the moving start. -/
def planStart (g : GroupNo) (gr : Group) (s : State) : Reckoned :=
  let ps := planGroup s gr
  let t0 := fullTime ps
  if belowWatchFloor s ps then answered s .windWatch
  else if t0 = 0 then answeredWith (startStill g gr ps s) .ok (startResults 0 0 false ps)
  else
    match chooseTime ps s.pAvail with
    | none => answeredWith s .powerShort (putPower (leastLoad ps) ++ putPower s.pAvail)
    | some move =>
      answeredWith (startMoving g gr ps move s) .ok
        (startResults move (move + s.settings.settleMargin) (t0 < move) ps)

/-- R45: START GROUP. -/
def startGroup (group : Nat) (s : State) : Reckoned :=
  match asFin 8 group with
  | none => answered s .badValue
  | some g =>
    match s.groups[g] with
    | none => answered s .noSuch
    | some gr =>
      if gr.underWay then answered s .groupMoving
      else if gr.ended || gr.members.isEmpty then answered s .badValue
      else if gr.members.any (fun m => s.iced m.dish) then answered s .icedMember
      else if !s.stowQueue.isEmpty then answered s .stowPending
      else if s.feed.overload then answered s .feedOverload
      else planStart g gr s

/-- R57: a MOVING member is halted: HOLD, STOPPING in the group, its deadline absent. -/
def haltMember (g : GroupNo) (m : Member) (s : State) : State :=
  if m.sub = .moving then modMember g m.dish (fun e => { e with deadline := none }) (goStopping m.dish true s) else s

/-- R57: a MOVING group is halted. -/
def halt (g : GroupNo) (gr : Group) (s : State) : State :=
  let s1 := gr.members.foldl (fun t m => haltMember g m t) s
  judgeGroup g (s1.modGroup g (fun x => { x with state := .halting }))

/-- A group's state as an answer carries it. -/
def putGroupState (s : State) (g : GroupNo) : List Byte :=
  match s.groups[g] with
  | some gr => put8 gr.state.number
  | none => []

/-- R57: HALT GROUP. -/
def haltGroup (group : Nat) (s : State) : Reckoned :=
  match asFin 8 group with
  | none => answered s .badValue
  | some g =>
    match s.groups[g] with
    | none => answered s .noSuch
    | some gr =>
      let s1 := if gr.state = .moving then halt g gr s else s
      answeredWith s1 .ok (putGroupState s1 g)

/-- R58: DISBAND GROUP. -/
def disbandGroup (group : Nat) (s : State) : Reckoned :=
  match asFin 8 group with
  | none => answered s .badValue
  | some g =>
    match s.groups[g] with
    | none => answered s .noSuch
    | some gr =>
      if gr.underWay then answered s .groupMoving
      else
        let s1 := gr.members.foldl (fun t m => settle m.dish t) s
        answeredWith (serveIfDue (s1.setGroup g none)) .ok (putList (fun m => put8 m.dish.val) gr.members)

/-- R59: LOOK UP GROUP. -/
def lookUpGroup (group : Nat) (s : State) : Reckoned :=
  match asFin 8 group with
  | none => answered s .badValue
  | some g =>
    match s.groups[g] with
    | none => answered s .noSuch
    | some gr => answeredWith s .ok (putGroup g gr ++ putSiteTime s)

/-- OPEN_GROUP. -/
def execOpenGroup (label : Byte) (params : List Byte) (s : State) : Host.Outcome State Fault Refusal :=
  runRequest ⟨0x20, label, params⟩ (openGroup (readTarget params)) s

/-- ADD_MEMBER. -/
def execAddMember (label : Byte) (params : List Byte) (s : State) : Host.Outcome State Fault Refusal :=
  runRequest ⟨0x21, label, params⟩ (addMember (readAdd params)) s

/-- DROP_MEMBER. -/
def execDropMember (label : Byte) (params : List Byte) (s : State) : Host.Outcome State Fault Refusal :=
  runRequest ⟨0x22, label, params⟩ (dropMember (field8 params 0) (field8 params 1)) s

/-- AIM_GROUP. -/
def execAimGroup (label : Byte) (params : List Byte) (s : State) : Host.Outcome State Fault Refusal :=
  runRequest ⟨0x23, label, params⟩ (aimGroup (readTarget params)) s

/-- START_GROUP. -/
def execStartGroup (label : Byte) (params : List Byte) (s : State) : Host.Outcome State Fault Refusal :=
  runRequest ⟨0x24, label, params⟩ (startGroup (field8 params 0)) s

/-- HALT_GROUP. -/
def execHaltGroup (label : Byte) (params : List Byte) (s : State) : Host.Outcome State Fault Refusal :=
  runRequest ⟨0x25, label, params⟩ (haltGroup (field8 params 0)) s

/-- DISBAND_GROUP. -/
def execDisbandGroup (label : Byte) (params : List Byte) (s : State) : Host.Outcome State Fault Refusal :=
  runRequest ⟨0x26, label, params⟩ (disbandGroup (field8 params 0)) s

/-- LOOK_UP_GROUP. -/
def execLookUpGroup (label : Byte) (params : List Byte) (s : State) : Host.Outcome State Fault Refusal :=
  runRequest ⟨0x27, label, params⟩ (lookUpGroup (field8 params 0)) s

/-- R51: a MOVING member's deadline has been reached without its arrival. -/
def memberOverdue (s : State) (d : DishNo) : Bool :=
  s.dishes[d].motion == .member &&
  match s.memberOf d with
  | some (_, m) =>
    m.sub == .moving &&
    match m.deadline with
    | some t => t ≤ s.siteTime
    | none => false
  | none => false

/-- MEMBER_DEADLINE_EXPIRY: the member is removed with OVERRUN and its dish cut (R51); overtaken otherwise (R19). -/
def execMemberDeadlineExpiry (d : DishNo) (s : State) : Host.Outcome State Fault Refusal :=
  .next (if memberOverdue s d then serveIfDue (cutDish d .overrun true s) else s)

end Machine
end Sys2Proof
end

