-- ==== Sys2Proof/Machine/Power.lean ====
section
/-! DEFINITION. The site power requests (Chapter 4) and the feed-overload monitor: SET FEED, LOOK UP BUDGET, R81 to R83. -/

namespace Sys2Proof
namespace Machine

/-- R80: SET FEED. The melt power shed that it answers is what freeing the excess over the new capacity took; what the request's own
free-power signal sheds for a queue head (R74) is not counted (log entry 29, the model's choice). -/
def setFeed (capacity : Nat) (s : State) : Reckoned :=
  let taken := min capacity Config.maxFeed
  if taken < sumDrive s.drive then answeredWith s .powerShort (putPower (sumDrive s.drive))
  else
    let s1 := s.modFeed (fun f => { f with capacity := taken })
    let s2 := shed 0 (sumDrive s1.drive + sumMelt s1.grants - taken) s1
    answeredWith (serve s2) .ok
      (put16 taken ++ putFlag (Config.maxFeed < capacity) ++ putPower (sumMelt s.grants - sumMelt s2.grants))

/-- R84: LOOK UP BUDGET. -/
def lookUpBudget (s : State) : Reckoned := answeredWith s .ok (putBudget s)

/-- SET_FEED. -/
def execSetFeed (label : Byte) (params : List Byte) (s : State) : Host.Outcome State Fault Refusal :=
  runRequest ⟨0x30, label, params⟩ (setFeed (field16 params 0)) s

/-- LOOK_UP_BUDGET. -/
def execLookUpBudget (label : Byte) (params : List Byte) (s : State) : Host.Outcome State Fault Refusal :=
  runRequest ⟨0x31, label, params⟩ lookUpBudget s

/-- R82: one circuit at an overload: grant 0, window OFF, and HEAT OFF to a present dish whose link is ACTIVE. -/
def shedCircuit (d : DishNo) (s : State) : State :=
  let s1 := (s.modGrant d (fun g => { g with duty := 0 })).modCircuit d (fun c => { c with window := none })
  if s.dishes[d].present then postHeat d false s1 else s1

/-- R82: the overload-shed flag is set. -/
def overloadShed (s : State) : State :=
  let s1 := s.modFeed (fun f => { f with overload := true, overRun := 0, quietRun := 0 })
  (raise .feedOverload [] (forDishes shedCircuit s1)).markServe

/-- R81: the load a raw value of channel 14 measures. -/
def measuredLoad (raw : Raw) : Nat := raw.toNat * 4000 / 4095

/-- R81: the run counts and L_meas after a GOOD sample, which is compared with the capacity in force as the monitor takes it, at the end of
its round; so a SET FEED run during a scan round counts from the end of that round (log entry 31, the model's choice). -/
def Feed.measure (load : Nat) (f : Feed) : Feed :=
  let g := { f with lMeas := some load, lost := false }
  if f.overload then
    if load ≤ f.capacity then { g with quietRun := f.quietRun + 1 } else { g with quietRun := 0 }
  else if f.capacity + f.capacity / 10 < load && 0 < f.capacity then { g with overRun := f.overRun + 1 }
  else { g with overRun := 0 }

/-- R81: the run counts after a HELD or FAILED sample. -/
def Feed.missed (lost : Bool) (f : Feed) : Feed :=
  let g := { f with lost := f.lost || lost }
  if f.overload then { g with quietRun := 0 } else { g with overRun := 0 }

/-- R83: the overload-shed flag clears. -/
def Feed.cleared (f : Feed) : Feed := { f with overload := false, quietRun := 0 }

/-- R81 to R83: the overload monitor takes the channel 14 sample of a round: a raw value when GOOD, none otherwise. -/
def monitorFeed (raw : Option Raw) (lost : Bool) (s : State) : State :=
  match raw with
  | none => s.modFeed (Feed.missed lost)
  | some r =>
    let s1 := s.modFeed (Feed.measure (measuredLoad r))
    if s.feed.overload then
      if Config.quietRounds ≤ s1.feed.quietRun then s1.modFeed Feed.cleared else s1
    else if Config.overRounds ≤ s1.feed.overRun then overloadShed s1
    else s1

end Machine
end Sys2Proof
end

