-- ==== Sys2Proof/Machine/Wind.lean ====
section
/-! DEFINITION. The wind cells and the stow controller (Chapter 6): taking in anemometer samples, the cell requests, the weather line,
the hold-down's expiry and the stow deadline's. -/

namespace Sys2Proof
namespace Machine

/-! ### Judging the wind (R101 to R104) -/

/-- R101: a GOOD sample of speed v is taken in. -/
def Cell.takeIn (v : Nat) (c : Cell) : Cell :=
  if c.limits.gust ≤ v then
    { c with
      last := some v, mean := (7 * c.mean + v + 4) / 8
      gustRun := min Config.gustRounds (c.gustRun + 1)
      runHigh := if c.gustRun = 0 then some v else some (max (c.runHigh.getD 0) v) }
  else { c with last := some v, mean := (7 * c.mean + v + 4) / 8, gustRun := 0, runHigh := none }

/-- R102: the wind reasons that a GOOD sample calls for. -/
def Cell.judgeWind (c : Cell) : Cell :=
  let c1 := if c.limits.stowMean ≤ c.mean then c.addWind else c
  if c1.gustRun = Config.gustRounds then c1.addGust else c1

/-- R103: a GOOD sample while the sensor lost flag is set. -/
def Cell.countGood (c : Cell) : Cell :=
  if !c.sensorLost then c
  else if Config.trustRounds ≤ c.goodRounds + 1 then { c with sensorLost := false, goodRounds := 0 }
  else { c with goodRounds := c.goodRounds + 1 }

/-- R104: a GOOD sample that leaves the mean at or above the release limit restarts a present hold-down. -/
def Cell.restartHold (c : Cell) : Cell :=
  if c.limits.release ≤ c.mean then { c with holdDown := c.holdDown.map (fun _ => c.limits.holdDown) } else c

/-- R101 to R104: a GOOD sample. -/
def Cell.goodSample (v : Nat) (c : Cell) : Cell := (c.takeIn v).judgeWind.countGood.restartHold

/-- R103: a HELD or FAILED sample. -/
def Cell.missedSample (lost : Bool) (c : Cell) : Cell :=
  if lost then c.addSensor else if c.sensorLost then { c with goodRounds := 0 } else c

/-- A cell handles its sample of a round: a speed when GOOD, none otherwise; then its state is judged (section 6.2). -/
def cellSample (c : CellNo) (speed : Option Nat) (lost : Bool) (s : State) : State :=
  judgeCell c (s.modCell c (fun x =>
    match speed with
    | some v => x.goodSample v
    | none => x.missedSample lost))

/-! ### Requests (R107 to R109, R112, R125) -/

/-- R107: the limits are in range and consistent. -/
def limitsValid (l : WindLimits) : Bool :=
  l.watch ≤ 700 && l.stowMean ≤ 700 && l.gust ≤ 700 && l.release ≤ 700 && 100 ≤ l.holdDown && l.holdDown ≤ 360000 &&
  l.release < l.stowMean && l.stowMean ≤ l.gust && l.watch < l.stowMean

/-- R107: a cell under new limits. -/
def Cell.withLimits (l : WindLimits) (c : Cell) : Cell :=
  let c1 := { c with limits := l, holdDown := c.holdDown.map (fun h => min h l.holdDown) }
  if l.stowMean ≤ c.mean then c1.addWind else c1

/-- R107: SET WIND LIMITS. -/
def setWindLimits (a : WindArgs) (s : State) : Reckoned :=
  match asFin 8 a.cell with
  | none => answered s .badValue
  | some c =>
    if !limitsValid a.limits then answered s .badValue
    else
      let s1 := serveIfDue (judgeCell c (s.modCell c (Cell.withLimits a.limits)))
      answeredWith s1 .ok (put8 s1.cells[c].state.number)

/-- R108: FORCED is added to a cell's reason set, and its state is judged. -/
def forceCell (c : CellNo) (s : State) : State :=
  judgeCell c (s.modCell c (fun x => { x with reasons := { x.reasons with forced := true } }))

/-- R108: the cells a FORCE STOW byte names: one, or all for 0xFF. -/
def cellsNamed (n : Nat) : Option (List CellNo) :=
  if n = 0xFF then some allCells else (asFin 8 n).map (fun c => [c])

/-- R108: FORCE STOW. -/
def forceStow (cell : Nat) (s : State) : Reckoned :=
  match cellsNamed cell with
  | none => answered s .badValue
  | some cs =>
    let s1 := serveIfDue (cs.foldl (fun t c => forceCell c t) s)
    answeredWith s1 .ok (putList (fun c => put8 s1.cells[c].state.number) cs)

/-- R109: RELEASE STOW. -/
def releaseStow (cell : Nat) (s : State) : Reckoned :=
  match asFin 8 cell with
  | none => answered s .badValue
  | some c =>
    let x := s.cells[c]
    if !x.reasons.forced && !x.reasons.external then answered s .notStowed
    else if x.limits.release ≤ x.mean || 0 < x.gustRun then answered s .windHigh
    else
      let s1 := serveIfDue (judgeCell c (s.modCell c (fun y =>
        { y with reasons := { y.reasons with forced := false, external := false } })))
      answeredWith s1 .ok (putReasons s1.cells[c].reasons ++ put8 s1.cells[c].state.number)

/-- R112: the detector state that a new site code gives. -/
def detectorFor (code : BitVec 16) : Detector := if code = 0x0000 || code = 0xFFFF then .disabled else .sync 0

/-- R112: SET SITE CODE. -/
def setSiteCode (code : Nat) (s : State) : Reckoned :=
  let new := BitVec.ofNat 16 code
  answeredWith ({ s with siteCode := new }.setDetector (detectorFor new)) .ok (put16 s.siteCode.toNat)

/-- R125: LOOK UP CELL. -/
def lookUpCell (cell : Nat) (s : State) : Reckoned :=
  match asFin 8 cell with
  | none => answered s .badValue
  | some c => answeredWith s .ok (putCellLookUp s c)

/-- SET_WIND_LIMITS. -/
def execSetWindLimits (label : Byte) (params : List Byte) (s : State) : Host.Outcome State Fault Refusal :=
  runRequest ⟨0x40, label, params⟩ (setWindLimits (readWind params)) s

/-- LOOK_UP_CELL. -/
def execLookUpCell (label : Byte) (params : List Byte) (s : State) : Host.Outcome State Fault Refusal :=
  runRequest ⟨0x41, label, params⟩ (lookUpCell (field8 params 0)) s

/-- FORCE_STOW. -/
def execForceStow (label : Byte) (params : List Byte) (s : State) : Host.Outcome State Fault Refusal :=
  runRequest ⟨0x42, label, params⟩ (forceStow (field8 params 0)) s

/-- RELEASE_STOW. -/
def execReleaseStow (label : Byte) (params : List Byte) (s : State) : Host.Outcome State Fault Refusal :=
  runRequest ⟨0x43, label, params⟩ (releaseStow (field8 params 0)) s

/-- SET_SITE_CODE. -/
def execSetSiteCode (label : Byte) (params : List Byte) (s : State) : Host.Outcome State Fault Refusal :=
  runRequest ⟨0x44, label, params⟩ (setSiteCode (field16 params 0)) s

/-! ### The weather line (R110, R111) -/

/-- The high byte of a site code. -/
def codeHigh (code : BitVec 16) : Byte := (code >>> 8).setWidth 8

/-- The low byte of a site code. -/
def codeLow (code : BitVec 16) : Byte := code.setWidth 8

/-- R111: the code byte expected after p matched bytes. -/
def expectedByte (code : BitVec 16) (p : Nat) : Byte := if p % 2 = 0 then codeHigh code else codeLow code

/-- TABLE 6.4: the detector's next state on a received byte, and whether the byte completes a full match. -/
def detect (code : BitVec 16) (x : Detector) (b : Byte) : Detector × Bool :=
  match x with
  | .disabled => (.disabled, false)
  | .sync n =>
    if n < 6 then (if b = 0xFF then .sync (n + 1) else .sync 0, false)
    else if b = codeHigh code then (.code 1, false)
    else if b = 0xFF then (.sync 6, false)
    else (.sync 0, false)
  | .code p =>
    if b = expectedByte code p then (if p < 15 then (.code (p + 1), false) else (.sync 0, true))
    else if b = 0xFF then (.sync 1, false)
    else (.sync 0, false)

/-- R110: a framing error puts a detector that is not DISABLED to SYNC with count 0. -/
def framingError (x : Detector) : Detector :=
  match x with
  | .disabled => .disabled
  | _ => .sync 0

/-- R111: EXTERNAL is added to a cell's reason set, and its state is judged. -/
def externCell (c : CellNo) (s : State) : State :=
  judgeCell c (s.modCell c (fun x => { x with reasons := { x.reasons with external := true } }))

/-- R111: a full match reaches every cell in order, and raises EXTERNAL_STOW. -/
def fullMatch (s : State) : State := raise .externalStow [] (allCells.foldl (fun t c => externCell c t) s)

/-- R110, R111: a character on the weather line. -/
def takeWeatherByte (b : Byte) (stopBit : Bool) (s : State) : State :=
  if !stopBit then s.setDetector (framingError s.detector)
  else
    let s1 := s.setDetector (detect s.siteCode s.detector b).1
    if (detect s.siteCode s.detector b).2 then serveIfDue (fullMatch s1) else s1

/-- WEATHER_BYTE. -/
def execWeatherByte (b : Byte) (stopBit : Bool) (s : State) : Host.Outcome State Fault Refusal :=
  .next (takeWeatherByte b stopBit s)

/-! ### Expiries (R105, R120) -/

/-- R105: a cell's hold-down has reached 0. -/
def holdDownOver (s : State) (c : CellNo) : Bool := s.cells[c].holdDown == some 0

/-- R105: the hold-down expires. -/
def Cell.endHold (c : Cell) : Cell :=
  { c with reasons := { c.reasons with wind := false, gust := false, sensor := false }, holdDown := none }

/-- HOLD_DOWN_EXPIRY; overtaken where the hold-down has not reached 0 (R19, R105). -/
def execHoldDownExpiry (c : CellNo) (s : State) : Host.Outcome State Fault Refusal :=
  .next (if holdDownOver s c then serveIfDue (judgeCell c (s.modCell c Cell.endHold)) else s)

/-- R120: a STOWING dish's stow deadline has been reached. -/
def stowOverdue (s : State) (d : DishNo) : Bool :=
  s.dishes[d].motion == .stowing &&
  match s.stowMoves[d] with
  | some m =>
    match m.deadline with
    | some t => t ≤ s.siteTime
    | none => false
  | none => false

/-- STOW_DEADLINE_EXPIRY: the dish is cut with OVERRUN (R120); overtaken otherwise (R19). -/
def execStowDeadlineExpiry (d : DishNo) (s : State) : Host.Outcome State Fault Refusal :=
  .next (if stowOverdue s d then serveIfDue (cutDish d .overrun true s) else s)

end Machine
end Sys2Proof
end

