-- ==== Sys2Proof/Machine/Sensors.lean ====
section
/-! DEFINITION. The sensor scan (Chapter 5): rounds, the one converter and its spots, the reference check, the channel records, what the
consumers receive, and the sensor requests. -/

namespace Sys2Proof
namespace Machine

/-! ### Conversion (R87, TABLE 5.3) -/

/-- TABLE 5.3: the converted value of a good sample; none for a failed one. -/
def convert (k : ChanNo) (raw : Raw) : Option Converted :=
  let r := raw.toNat
  if k.val ≤ 7 then (if 4090 ≤ r then none else some (.number (min 700 (r * 700 / 4095) : Nat)))
  else if k.val ≤ 11 then (if r = 0 || 4090 ≤ r then none else some (.number ((r * 1000 / 4095 : Nat) - 500)))
  else if k.val ≤ 13 then (if 4090 ≤ r then none else some (.wetness (2048 ≤ r)))
  else if k.val = 14 then some (.number (measuredLoad raw))
  else if 2008 ≤ r && r ≤ 2088 then some (.number r)
  else none

/-- R88: a record that takes in a sample. -/
def Channel.takeIn (k : ChanNo) (raw : Raw) (c : Channel) : Channel :=
  match convert k raw with
  | some v => { c with lastRaw := some raw, value := some v, status := .good, bad := 0, age := 0 }
  | none =>
    { c with
      lastRaw := some raw, status := .failed, bad := min Config.maxBad (c.bad + 1), age := min Config.max16 (c.age + 1) }

/-- R90: a record whose sample is held. -/
def Channel.hold (c : Channel) : Channel :=
  { c with status := .held, bad := min Config.maxBad (c.bad + 1), age := min Config.max16 (c.age + 1) }

/-- R92: the lost rule. -/
def Channel.judgeLost (c : Channel) : Channel :=
  if Config.lostRounds ≤ c.bad then { c with lost := true } else if c.bad = 0 then { c with lost := false } else c

/-! ### The end of a round (R85, R89 to R93) -/

/-- R89: the reference mode and runs after channel 15's sample was in or out of its window. -/
def Scan.judgeReference (inWindow : Bool) (x : Scan) : Scan :=
  match x.mode, inWindow with
  | .normal, true => { x with outRun := 0 }
  | .normal, false =>
    if Config.referenceRounds ≤ x.outRun + 1 then { x with mode := .fault, outRun := 0, inRun := 0 }
    else { x with outRun := x.outRun + 1 }
  | .fault, true =>
    if Config.referenceRounds ≤ x.inRun + 1 then { x with mode := .normal, outRun := 0, inRun := 0 }
    else { x with inRun := x.inRun + 1 }
  | .fault, false => { x with inRun := 0 }

/-- R88, R90: a record of channels 0 … 14 at the end of a round, by the reference mode that the judgement leaves. -/
def Channel.endRound (mode : RefMode) (k : ChanNo) (raw : Raw) (c : Channel) : Channel :=
  match mode with
  | .normal => c.takeIn k raw
  | .fault => c.hold

/-- Channels 0 … 14. -/
def roundChannels : List ChanNo := (List.finRange 16).filter (fun k => k.val < 15)

/-- R85, steps 1 to 3: the reference, the records and the lost rule. -/
def Scan.record (raws : Vector Raw 16) (x : Scan) : Scan :=
  let x1 := { x with channels := x.channels.set 15 (x.channels[15].takeIn 15 raws[15]) }
  let x2 := x1.judgeReference (convert 15 raws[15]).isSome
  let taken := roundChannels.foldl (fun (v : Vector Channel 16) (k : ChanNo) => v.set k (v[k].endRound x2.mode k raws[k])) x2.channels
  { x2 with channels := (List.finRange 16).foldl (fun (v : Vector Channel 16) (k : ChanNo) => v.set k v[k].judgeLost) taken }

/-- A record's value as a number. -/
def Channel.number (c : Channel) : Option Int :=
  match c.value with
  | some (.number v) => some v
  | _ => none

/-- TABLE 5.4: a precipitation sample is wet: its own reading when GOOD, the record's value or wet when HELD, wet when FAILED. -/
def Channel.wet (c : Channel) : Bool :=
  match c.status, c.value with
  | .failed, _ => true
  | _, some (.wetness w) => w
  | _, _ => true

/-- R93, TABLE 5.4: hands one channel's sample to its consumer, as one event of that consumer. -/
def handSample (k : ChanNo) (s : State) : State :=
  let c := s.scan.channels[k]
  if h : k.val < 8 then
    serveIfDue (cellSample ⟨k.val, h⟩ (if c.status = .good then c.number.map Int.toNat else none) c.lost s)
  else if h : k.val - 8 < 4 then zoneSample ⟨k.val - 8, h⟩ c.number c.status s
  else if h : k.val - 12 < 2 then precipSample ⟨k.val - 12, h⟩ c.wet s
  else serveIfDue (monitorFeed (if c.status = .good then c.lastRaw else none) c.lost s)

/-- A conversion begins, or none does: the converter's work is new in this centisecond. -/
def Scan.takeUp (c : Converter) (x : Scan) : Scan := { x with converter := c, crossed := false }

/-- What the converter takes up when a conversion has ended: a waiting spot first, then the round's next channel (R96). -/
def Scan.goOn (x : Scan) : Scan :=
  match x.spot with
  | some p => if p.converting then x else { x with spot := some { p with converting := true } }.takeUp .spot
  | none => x.takeUp (if x.round.isSome then .channel else .idle)

/-- R85: the end of a round whose 16 samples are complete. -/
def endRound (raws : Vector Raw 16) (s : State) : State :=
  let x1 := s.scan.record raws
  let s1 := s.modScan (fun _ => ({ x1 with round := none, lastEnd := some s.siteTime }).goOn)
  let s2 := if s.scan.mode = .normal && x1.mode = .fault then raise .sensorFault [] s1 else s1
  roundChannels.foldl (fun t k => handSample k t) s2

/-! ### Round and conversion events (R85, R96 to R98) -/

/-- R85: a scan round is due: site time is a multiple of 25 cs at which no round has begun, and none is under way. -/
def scanDue (s : State) : Bool :=
  s.siteTime % Config.scanPeriod == 0 && s.scan.round.isNone && s.scan.lastStart != some s.siteTime

/-- R85, R96: a round begins; channel 0 is converted at once, or when a spot conversion under way ends. -/
def Scan.beginRound (now : Nat) (x : Scan) : Scan :=
  let x1 := { x with round := some ⟨now, 0, Vector.replicate 16 0⟩, lastStart := some now }
  if x.converter = .idle then x1.takeUp .channel else x1

/-- SCAN_ROUND_START; nothing happens at any other instant. -/
def execScanRoundStart (s : State) : Host.Outcome State Fault Refusal :=
  .next (if scanDue s then s.modScan (Scan.beginRound s.siteTime) else s)

/-- CONVERSION_END: a conversion of channels 0 … 14 ends; overtaken where none is under way (R96). -/
def execConversionEnd (raw : Raw) (s : State) : Host.Outcome State Fault Refusal :=
  match s.scan.converter, s.scan.round with
  | .channel, some r =>
    .next (if r.chan.val < 15 then
      s.modScan (fun x => ({ x with round := some ⟨r.start, r.chan + 1, r.raws.set r.chan raw⟩ }).goOn)
    else s)
  | _, _ => .next s

/-- SCAN_ROUND_END: the conversion of channel 15 ends; overtaken where it is not under way (R85). -/
def execScanRoundEnd (raw : Raw) (s : State) : Host.Outcome State Fault Refusal :=
  match s.scan.converter, s.scan.round with
  | .channel, some r => .next (if r.chan = 15 then endRound (r.raws.set 15 raw) s else s)
  | _, _ => .next s

/-- R97: the results of a spot reading: channel, raw, good (0) or failed (1), the value if good, the reference mode, the site time. -/
def spotResults (p : Spot) (raw : Raw) (s : State) : List Byte :=
  put8 p.chan.val ++ putRaw raw ++ put8 (if (convert p.chan raw).isSome then 0 else 1) ++
  putOption putConverted (convert p.chan raw) ++ put8 s.scan.mode.number ++ putSiteTime s

/-- SPOT_CONVERSION_END: the spot's answer enters the answer queue (R97); a spot discarded while converting leaves no trace (R98);
overtaken where no spot is converting. -/
def execSpotConversionEnd (raw : Raw) (s : State) : Host.Outcome State Fault Refusal :=
  match s.scan.converter, s.scan.spot with
  | .spot, some p =>
    .next ((s.modScan (fun x => ({ x with spot := none }).goOn)).modPort (fun q =>
      { q with answers := q.answers ++ [⟨0x38, p.label, .ok, spotResults p raw s⟩] }))
  | .dropped, _ => .next (s.modScan Scan.goOn)
  | _, _ => .next s

/-! ### Requests (R95, R99) -/

/-- R95, R96: SPOT READING; an accepted one has no answer at its run. Accepted while no round runs it converts at once, save while a
conversion that RESET COORDINATION dropped is still under way: then it waits for that one to end (log entry 27, the model's choice). -/
def spotReading (label : Byte) (chan : Nat) (s : State) : Reckoned :=
  match asFin 16 chan with
  | none => answered s .badValue
  | some k =>
    if s.scan.spot.isSome then answered s .spotBusy
    else
      (s.modScan (fun x =>
        if x.converter = .idle then { x with spot := some ⟨label, k, true⟩ }.takeUp .spot
        else { x with spot := some ⟨label, k, false⟩ }), none)

/-- R99: LOOK UP CHANNELS. -/
def lookUpChannels (s : State) : Reckoned := answeredWith s .ok (putScan s.scan ++ putSiteTime s)

/-- SPOT_READING. -/
def execSpotReading (label : Byte) (params : List Byte) (s : State) : Host.Outcome State Fault Refusal :=
  runRequest ⟨0x38, label, params⟩ (spotReading label (field8 params 0)) s

/-- LOOK_UP_CHANNELS. -/
def execLookUpChannels (label : Byte) (params : List Byte) (s : State) : Host.Outcome State Fault Refusal :=
  runRequest ⟨0x39, label, params⟩ lookUpChannels s

/-- R98: RESET COORDINATION discards a pending spot; one under way completes its conversion and its result is dropped. -/
def Scan.dropSpot (x : Scan) : Scan :=
  { x with spot := none, converter := if x.converter = .spot then .dropped else x.converter }

end Machine
end Sys2Proof
end

