-- ==== Sys2Proof/Machine/Port.lean ====
section
/-! DEFINITION. The command port (Chapter 10): reset, exchanges and frames, the array clock's request (R61), conditions, RESET
COORDINATION, and the run of a request whose code names none. -/

namespace Sys2Proof
namespace Machine

/-! ### Reset and exchanges (R179 to R183) -/

/-- POWER_ON_RESET: every block takes its power-on values. The waiting commands and the count of free values are the model's own and
stay (log entry 8). -/
def execPowerOnReset (s : State) : Host.Outcome State Fault Refusal :=
  .next { State.reset with pending := s.pending, freeCount := s.freeCount }

/-- R180: the snapshot at the fall of NSEL. -/
def snapshot (s : State) : Exchange where
  statusByte := statusByte s
  answer     := s.port.answers.head?.map answerBytes
  live       := s.port.answers.head?.isSome

/-- EXCHANGE_BEGIN; NSEL falls only while it is high. -/
def execExchangeBegin (s : State) : Host.Outcome State Fault Refusal :=
  .next (if s.port.exchange.isSome then s else s.modPort (fun p => { p with exchange := some (snapshot s) }))

/-- R182: the head answer of the snapshot has been delivered by n complete bytes and still stands at the head. -/
def Exchange.delivers (x : Exchange) (n : Nat) : Bool := x.live && x.answer.isSome && 2 + 8 * x.units ≤ n

/-- R182: the end of an exchange removes a delivered answer. -/
def Port.deliver (x : Exchange) (n : Nat) (p : Port) : Port :=
  { p with exchange := none, answers := if x.delivers n then p.answers.tail else p.answers }

/-- The request of a frame of n bytes (TABLE 11.1). -/
def requestIn (frame : List Byte) : Request :=
  ⟨frame.getD 1 0, frame.getD 2 0, (frame.drop 3).take (frame.length - 4)⟩

/-- R194: the frame check agrees. -/
def checkAgrees (frame : List Byte) : Bool := crc frame.dropLast == frame.getLastD 0

/-- Sets the last-frame outcome. -/
def setOutcome (o : FrameOutcome) (s : State) : State := s.modPort (fun p => { p with lastFrame := o })

/-- R183: judges the frame that an exchange carried. -/
def judgeFrame (bytes : List Byte) (s : State) : State :=
  let n := (bytes.headD 0).toNat
  if n = 0 then s
  else if n < 4 || 64 < n then setOutcome .badFrame s
  else if bytes.length < n then setOutcome .truncated s
  else if checkAgrees (bytes.take n) then takeFrame (requestIn (bytes.take n)) s
  else setOutcome .badFrame s

/-- EXCHANGE_END: NSEL rises after these complete bytes; nothing happens where no exchange is in progress. -/
def execExchangeEnd (bytes : List Byte) (s : State) : Host.Outcome State Fault Refusal :=
  match s.port.exchange with
  | none => .next s
  | some x => .next (judgeFrame bytes (s.modPort (Port.deliver x bytes.length)))

/-! ### Requests of the site (R61, R189, R191) -/

/-- R61: SET CLOCK. -/
def setClock (value : Nat) (s : State) : Reckoned :=
  answeredWith { s with arrayClock := BitVec.ofNat 32 value } .ok (putClock s.arrayClock ++ putSiteTime s)

/-- Every flag clear and every item set empty. -/
def Port.clearConditions (p : Port) : Port := { p with conditions := Vector.replicate 9 ⟨false, []⟩ }

/-- R189: READ CONDITIONS. -/
def readConditions (s : State) : Reckoned := answeredWith (s.modPort Port.clearConditions) .ok (putConditions s.port)

/-- R21: what RESET COORDINATION does with a dish. -/
def resetDish (d : DishNo) (s : State) : State :=
  match s.dishes[d].motion with
  | .member =>
    if s.movingMember d then goStopping d false s else s.modDish d (fun r => { r with motion := .free, group := none })
  | .stopping => s.modDish d (fun r => { r with group := none })
  | _ => s

/-- A SETPOINT of kind SLEW. -/
def Order.isSlew : Order → Bool
  | .setpoint sp =>
    match sp.kind with
    | .slew _ => true
    | .stow => false
  | _ => false

/-- R177: the slew SETPOINTs leave a motion order list. -/
def BusRecord.dropSlews (b : BusRecord) : BusRecord :=
  { b with
    orders := b.orders.filter (fun o => !o.isSlew)
    inFlight := b.inFlight.map (InFlight.loseHead ((b.orders.head?.map Order.isSlew).getD false)) }

/-- R21, R63, R177: the dish table, the group table and the engines at RESET COORDINATION. -/
def resetBlocks (s : State) : State :=
  let s1 := forDishes resetDish s
  { s1 with groups := Vector.replicate 8 none, bus := s1.bus.map BusRecord.dropSlews }

/-- R191: the port at RESET COORDINATION. -/
def Port.cleared (p : Port) : Port :=
  { p.clearConditions with
    queue := [], answers := [], exchange := p.exchange.map (fun x => { x with live := false }) }

/-- R191: RESET COORDINATION. -/
def resetCoordination (s : State) : Reckoned :=
  answeredWith (((resetBlocks s).modScan Scan.dropSpot).modPort Port.cleared) .ok
    (put8 s.port.queue.length ++ put8 s.port.answers.length ++ putFlag s.scan.spot.isSome)

/-- SET_CLOCK. -/
def execSetClock (label : Byte) (params : List Byte) (s : State) : Host.Outcome State Fault Refusal :=
  runRequest ⟨0x70, label, params⟩ (setClock (field32 params 0)) s

/-- READ_CONDITIONS. -/
def execReadConditions (label : Byte) (params : List Byte) (s : State) : Host.Outcome State Fault Refusal :=
  runRequest ⟨0x71, label, params⟩ readConditions s

/-- RESET_COORDINATION. -/
def execResetCoordination (label : Byte) (params : List Byte) (s : State) : Host.Outcome State Fault Refusal :=
  runRequest ⟨0x72, label, params⟩ resetCoordination s

/-- UNKNOWN_REQUEST: the run of a request whose code names none (R186); not the command of a code that TABLE 11.4 has. -/
def execUnknownRequest (code label : Byte) (params : List Byte) (s : State) : Host.Outcome State Fault Refusal :=
  if knownCode code then .next s
  else
    match beginRequest ⟨code, label, params⟩ s with
    | .held s1 => .next s1
    | .run s1 => .next (endRequest ⟨code, label, params⟩ (answered s1 .unknownRequest))

end Machine
end Sys2Proof
end

