-- ==== Sys2Proof/Machine/Tags.lean ====
section
/-! DEFINITION. The lockout tag requests (Chapter 8): PLACE TAG, RELEASE TAG, LOOK UP TAG, LIST TAGS. -/

namespace Sys2Proof
namespace Machine

/-! ### Placing a tag (R145 to R148) -/

/-- What a coverage holds beyond another. -/
def Coverage.beyond (a b : Coverage) : Coverage := ⟨a.az && !b.az, a.el && !b.el, a.melt && !b.melt⟩

/-- R145: the table holds a tag of the holder on the dish whose scope overlaps. -/
def State.overlapping (s : State) (holder : Nat) (d : DishNo) (scope : Scope) : Bool :=
  (tagsOn s d).any (fun e => e.2.holder == holder && e.2.scope.overlaps scope)

/-- TABLE 8.3: what new motion coverage does with a dish. -/
def takeLock (d : DishNo) (gained : Coverage) (s : State) : State :=
  match s.dishes[d].motion with
  | .free => setMotion d .locked s
  | .member =>
    match s.memberOf d with
    | some (g, m) => lockMember g m s
    | none => s
  | .stopping =>
    match s.memberOf d with
    | some (g, m) => lockMember g m s
    | none => s
  | .stowQueued => if gained.el then setMotion d .locked (leaveQueue d s) else s
  | .stowing => if gained.el then goStopping d false s else s
  | _ => s

/-- R146, R147: the effects of a coverage gained. A head that has left the stow queue makes a serve at once (R117). -/
def gainCoverage (d : DishNo) (gained : Coverage) (s : State) : State :=
  let s1 := if gained.motion then serveIfDue (takeLock d gained s) else s
  if gained.melt then meltLockout d s1 else s1

/-- R148: the motion states, with a member's sub-state, in which a tag may be HELD at once. -/
def State.settledForTag (s : State) (d : DishNo) : Bool :=
  match s.dishes[d].motion with
  | .restrained => true
  | .free => true
  | .locked => true
  | .stowQueued => true
  | .stowed => true
  | .member => !s.movingMember d
  | _ => false

/-- R148: the state of a newly placed tag. -/
def State.placedState (s : State) (d : DishNo) : TagState :=
  if s.linked d && s.settledForTag d && (s.dishes[d].observed.map Observed.atRest).getD false then .held else .stopping

/-- A tag's state is changed. -/
def setTagState (k : TagNo) (st : TagState) (s : State) : State := s.setTag k (s.tags[k].map (fun t => { t with state := st }))

/-- R145: an accepted PLACE TAG fills slot k; its free-power signal follows all its changes (R147, log entry 13). -/
def fillSlot (k : TagNo) (t : Tag) (s : State) : State :=
  let s1 := s.setTag k (some t)
  let s2 := gainCoverage t.dish ((s1.coverage t.dish).beyond (s.coverage t.dish)) s1
  serveIfDue (setTagState k (s2.placedState t.dish) s2)

/-- R145: the placement took the dish out of a group. -/
def leftGroup (d : DishNo) (before after : State) : Bool := (before.memberOf d).isSome && (after.memberOf d).isNone

/-- R145: the results of an accepted PLACE TAG, before and after. -/
def placedResults (k : TagNo) (t : Tag) (before after : State) : List Byte :=
  put8 k.val ++
  put8 (match after.tags[k] with | some u => u.state.number | none => t.state.number) ++
  putClock t.stamp ++ putCoverage (after.coverage t.dish) ++ put8 after.dishes[t.dish].motion.number ++
  putFlag (leftGroup t.dish before after)

/-- R145: PLACE TAG. -/
def placeTag (a : PlaceArgs) (s : State) : Reckoned :=
  match asFin 48 a.dish, scopeOf a.scope with
  | some d, some scope =>
    if a.holder = 0 || 65535 < a.holder then answered s .badValue
    else if !s.dishes[d].present then answered s .badValue
    else if s.overlapping a.holder d scope then answered s .duplicateTag
    else
      match emptySlots s with
      | [] => answered s .tagTableFull
      | k :: _ =>
        let t : Tag := ⟨a.holder, d, scope, .stopping, s.arrayClock⟩
        let s1 := fillSlot k t s
        answeredWith s1 .ok (placedResults k t s s1)
  | _, _ => answered s .badValue

/-! ### Releasing a tag (R152 to R154) -/

/-- R153, R154: the effects of a coverage lost. -/
def loseCoverage (d : DishNo) (lost : Coverage) (s : State) : State :=
  let s1 := if lost.motion && s.dishes[d].motion == .locked then settle d s else s
  if lost.melt then computeDemand d s1 else s1

/-- R152: an accepted RELEASE TAG empties slot k. -/
def emptySlot (k : TagNo) (t : Tag) (s : State) : State :=
  let s1 := s.setTag k none
  serveIfDue (loseCoverage t.dish ((s.coverage t.dish).beyond (s1.coverage t.dish)) s1)

/-- R152: RELEASE TAG. -/
def releaseTag (a : ReleaseArgs) (s : State) : Reckoned :=
  match asFin 64 a.tag with
  | none => answered s .badValue
  | some k =>
    if a.holder = 0 || 65535 < a.holder then answered s .badValue
    else
      match s.tags[k] with
      | none => answered s .noSuch
      | some t =>
        if t.holder ≠ a.holder then answered s .holderMismatch
        else
          let s1 := emptySlot k t s
          answeredWith s1 .ok
            (put8 t.dish.val ++ put8 t.scope.number ++ put8 t.state.number ++ putCoverage (s1.coverage t.dish) ++
             put8 s1.dishes[t.dish].motion.number)

/-! ### Look-ups (R157, R158) -/

/-- R157: LOOK UP TAG. -/
def lookUpTag (tag : Nat) (s : State) : Reckoned :=
  match asFin 64 tag with
  | none => answered s .badValue
  | some k =>
    match s.tags[k] with
    | none => answered s .noSuch
    | some t =>
      answeredWith s .ok
        (putTag k t ++ putCoverage (s.coverage t.dish) ++ put8 s.dishes[t.dish].motion.number ++
         put8 s.bus[t.dish].link.number ++ putSiteTime s ++ putClock s.arrayClock)

/-- R158: LIST TAGS. -/
def listTags (dish : Nat) (s : State) : Reckoned :=
  match asFin 48 dish with
  | none => answered s .badValue
  | some d =>
    answeredWith s .ok (putList putListedTag (tagsOn s d) ++ putCoverage (s.coverage d) ++ put8 (emptySlots s).length)

/-- PLACE_TAG. -/
def execPlaceTag (label : Byte) (params : List Byte) (s : State) : Host.Outcome State Fault Refusal :=
  runRequest ⟨0x60, label, params⟩ (placeTag (readPlace params)) s

/-- RELEASE_TAG. -/
def execReleaseTag (label : Byte) (params : List Byte) (s : State) : Host.Outcome State Fault Refusal :=
  runRequest ⟨0x61, label, params⟩ (releaseTag (readRelease params)) s

/-- LOOK_UP_TAG. -/
def execLookUpTag (label : Byte) (params : List Byte) (s : State) : Host.Outcome State Fault Refusal :=
  runRequest ⟨0x62, label, params⟩ (lookUpTag (field8 params 0)) s

/-- LIST_TAGS. -/
def execListTags (label : Byte) (params : List Byte) (s : State) : Host.Outcome State Fault Refusal :=
  runRequest ⟨0x63, label, params⟩ (listTags (field8 params 0)) s

end Machine
end Sys2Proof
end

