-- ==== Sys2Proof/Machine/Dispatch.lean ====
section
/-! DEFINITION. Which meaning each command has: one arm per constructor of Instr, in the order of spec/opcode_table.json. -/

namespace Sys2Proof
namespace Machine

/-- The effect of a command on everything but the queue of waiting commands. -/
def exec (i : Instr) (s : State) : Host.Outcome State Fault Refusal :=
  match i with
  | .powerOnReset => Sys2Proof.Machine.execPowerOnReset s
  | .exchangeBegin => Sys2Proof.Machine.execExchangeBegin s
  | .exchangeEnd bytes => Sys2Proof.Machine.execExchangeEnd bytes s
  | .describeDish label params => Sys2Proof.Machine.execDescribeDish label params s
  | .resumeDish label params => Sys2Proof.Machine.execResumeDish label params s
  | .restrainDish label params => Sys2Proof.Machine.execRestrainDish label params s
  | .lookUpDish label params => Sys2Proof.Machine.execLookUpDish label params s
  | .writeOffDish label params => Sys2Proof.Machine.execWriteOffDish label params s
  | .openGroup label params => Sys2Proof.Machine.execOpenGroup label params s
  | .addMember label params => Sys2Proof.Machine.execAddMember label params s
  | .dropMember label params => Sys2Proof.Machine.execDropMember label params s
  | .aimGroup label params => Sys2Proof.Machine.execAimGroup label params s
  | .startGroup label params => Sys2Proof.Machine.execStartGroup label params s
  | .haltGroup label params => Sys2Proof.Machine.execHaltGroup label params s
  | .disbandGroup label params => Sys2Proof.Machine.execDisbandGroup label params s
  | .lookUpGroup label params => Sys2Proof.Machine.execLookUpGroup label params s
  | .setFeed label params => Sys2Proof.Machine.execSetFeed label params s
  | .lookUpBudget label params => Sys2Proof.Machine.execLookUpBudget label params s
  | .spotReading label params => Sys2Proof.Machine.execSpotReading label params s
  | .lookUpChannels label params => Sys2Proof.Machine.execLookUpChannels label params s
  | .setWindLimits label params => Sys2Proof.Machine.execSetWindLimits label params s
  | .forceStow label params => Sys2Proof.Machine.execForceStow label params s
  | .releaseStow label params => Sys2Proof.Machine.execReleaseStow label params s
  | .setSiteCode label params => Sys2Proof.Machine.execSetSiteCode label params s
  | .lookUpCell label params => Sys2Proof.Machine.execLookUpCell label params s
  | .setMeltMode label params => Sys2Proof.Machine.execSetMeltMode label params s
  | .setMeltLimits label params => Sys2Proof.Machine.execSetMeltLimits label params s
  | .lookUpMelt label params => Sys2Proof.Machine.execLookUpMelt label params s
  | .placeTag label params => Sys2Proof.Machine.execPlaceTag label params s
  | .releaseTag label params => Sys2Proof.Machine.execReleaseTag label params s
  | .lookUpTag label params => Sys2Proof.Machine.execLookUpTag label params s
  | .listTags label params => Sys2Proof.Machine.execListTags label params s
  | .setClock label params => Sys2Proof.Machine.execSetClock label params s
  | .readConditions label params => Sys2Proof.Machine.execReadConditions label params s
  | .resetCoordination label params => Sys2Proof.Machine.execResetCoordination label params s
  | .unknownRequest code label params => Sys2Proof.Machine.execUnknownRequest code label params s
  | .scanRoundStart => Sys2Proof.Machine.execScanRoundStart s
  | .conversionEnd raw => Sys2Proof.Machine.execConversionEnd raw s
  | .scanRoundEnd raw => Sys2Proof.Machine.execScanRoundEnd raw s
  | .spotConversionEnd raw => Sys2Proof.Machine.execSpotConversionEnd raw s
  | .pollRoundStart seg => Sys2Proof.Machine.execPollRoundStart seg s
  | .visit dish => Sys2Proof.Machine.execVisit dish s
  | .presenceProbe dish => Sys2Proof.Machine.execPresenceProbe dish s
  | .transactionEnd dish chars cutShort => Sys2Proof.Machine.execTransactionEnd dish chars cutShort s
  | .memberDeadlineExpiry dish => Sys2Proof.Machine.execMemberDeadlineExpiry dish s
  | .stowDeadlineExpiry dish => Sys2Proof.Machine.execStowDeadlineExpiry dish s
  | .quietTimeEnd dish => Sys2Proof.Machine.execQuietTimeEnd dish s
  | .holdDownExpiry cell => Sys2Proof.Machine.execHoldDownExpiry cell s
  | .lingerExpiry => Sys2Proof.Machine.execLingerExpiry s
  | .heaterBoundary => Sys2Proof.Machine.execHeaterBoundary s
  | .windowOpen dish => Sys2Proof.Machine.execWindowOpen dish s
  | .windowClose dish => Sys2Proof.Machine.execWindowClose dish s
  | .weatherByte byte stopBit => Sys2Proof.Machine.execWeatherByte byte stopBit s

end Machine
end Sys2Proof
end

