-- ==== Sys2Proof/Machine/Time.lean ====
section
/-! DEFINITION. What the part does when no command waits (log entries 9 and 11): the run of a waiting request begins where none is under
way; else an event that its own state makes due at this site time is taken, the first of them in a fixed order; when none is due, one
centisecond passes. When a run ends, when a visit begins, when within its bounds a conversion or a reply window ends, and what a conversion
reads is left open by the manual: each is a free value, new at every such step. -/

namespace Sys2Proof
namespace Machine

/-- A list with one entry where a condition holds. -/
def when (p : Bool) (i : Instr) : List Instr := if p then [i] else []

/-- Every segment number in rising order. -/
def allSegments : List SegNo := List.finRange 4

/-- R185: the run of the request at the head of the queue begins: no request is running. -/
def runStartDue (s : State) : Bool := s.port.running.isNone && !s.port.queue.isEmpty

/-- R185: the run under way ends now, unless it goes on (a free value, log entry 11). -/
def dueRuns (s : State) : List Instr :=
  match s.port.running with
  | some r => when (!Config.runGoesOn s.freeCount) (commandOf r)
  | none => []

/-- R85, R96: the end of the conversion under way, with the raw value that its input gives (a free value, log entry 9). -/
def conversionEnds (s : State) : List Instr :=
  match s.scan.converter, s.scan.round with
  | .channel, some r =>
    [if r.chan = 15 then .scanRoundEnd (Config.sampled s.freeCount) else .conversionEnd (Config.sampled s.freeCount)]
  | .spot, _ => [.spotConversionEnd (Config.sampled s.freeCount)]
  | .dropped, _ => [.spotConversionEnd (Config.sampled s.freeCount)]
  | _, _ => []

/-- R85, R96: the conversion under way ends before the next centisecond begins: a round ends within the centisecond in which it began, and
no conversion, of 50 µs, lasts into a second centisecond after its own. -/
def conversionForced (s : State) : Bool := s.scan.round.isSome || s.scan.crossed

/-- The conversion under way ends now, unless it goes on (a free value, log entry 9). -/
def dueConversions (s : State) : List Instr := (conversionEnds s).filter (fun _ => !Config.conversionGoesOn s.freeCount)

/-- The conversion under way ends now, since nothing else is due and it may not go on. -/
def lateConversions (s : State) : List Instr := if conversionForced s then conversionEnds s else []

/-- The boundary and the rounds that are due at this site time (R85, R134, R163). -/
def dueRounds (s : State) : List Instr :=
  when (boundaryDue s) .heaterBoundary ++ when (scanDue s) .scanRoundStart ++
  allSegments.flatMap (fun g => when (pollDue s g) (.pollRoundStart g))

/-- R163: the last centisecond of a segment's round, since every visit ends before the next round begins: the next centisecond begins a
round, or this one does and the round under way is the one before. -/
def roundClosing (s : State) (g : SegNo) : Bool :=
  (s.siteTime + 1) % Config.pollPeriod == 0 ||
  (s.siteTime % Config.pollPeriod == 0 && s.engines[g].roundStart != some s.siteTime)

/-- R163: the visit that a round has come to begins now: the engine does not leave the line idle for this centisecond (a free value, log
entry 9), or it is the last of the round. -/
def visitNow (s : State) (g : SegNo) (d : DishNo) : Bool :=
  roundClosing s g || !Config.lineIdles s.freeCount g (addrOf d)

/-- The visits that begin now (R163, R164, R174). -/
def dueVisits (s : State) : List Instr :=
  allSegments.flatMap (fun g =>
    match s.nextVisit g with
    | some d => when (visitNow s g d) (if s.linked d then .visit d else .presenceProbe d)
    | none => [])

/-- R163, R168: a transaction under way ends before the next centisecond begins: it is the last of its round, or the transaction, of less than
1.5 ms, began in an earlier one. -/
def endForced (s : State) (d : DishNo) (x : InFlight) : Bool := roundClosing s (segOf d) || x.began != s.siteTime

/-- R168: the reply window of a transaction under way closes now: it does not stay open (a free value, log entry 9), or it must close. -/
def endDue (s : State) (d : DishNo) : Bool :=
  match s.bus[d].inFlight with
  | some x => endForced s d x || !Config.windowStays s.freeCount d
  | none => false

/-- The reply windows that close in silence, since no command has brought a character (R168; log entry 9). -/
def dueEnds (s : State) : List Instr := allDishes.flatMap (fun d => when (endDue s d) (.transactionEnd d [] false))

/-- The window events that are due (R135); an own window that a carried one closes for is opened by that close. -/
def dueWindows (s : State) : List Instr :=
  allDishes.flatMap (fun d => when (closeDue s d) (.windowClose d) ++ when (!closeDue s d && s.ownDue d) (.windowOpen d))

/-- The expiries that are due (R14, R51, R105, R120, R130). -/
def dueExpiries (s : State) : List Instr :=
  allDishes.flatMap (fun d =>
    when (memberOverdue s d) (.memberDeadlineExpiry d) ++ when (stowOverdue s d) (.stowDeadlineExpiry d) ++
    when (quietEnded s d) (.quietTimeEnd d)) ++
  allCells.flatMap (fun c => when (holdDownOver s c) (.holdDownExpiry c)) ++ when (lingerOver s) .lingerExpiry

/-- The commands that the part's own state makes due now. -/
def dueCommands (s : State) : List Instr :=
  dueRuns s ++ dueConversions s ++ dueRounds s ++ dueVisits s ++ dueWindows s ++ dueExpiries s ++ dueEnds s ++ lateConversions s

/-- A count that runs falls by one. -/
def countIf (runs : Bool) (n : Option Nat) : Option Nat := if runs then n.map (fun k => k - 1) else n

/-- R14: a CUT dish's quiet time counts down while it runs. -/
def DishRecord.tick (r : DishRecord) : DishRecord :=
  { r with quiet := countIf (r.motion == .cut && !r.quietStopped) r.quiet }

/-- R104: a cell's hold-down counts down while it runs. -/
def Cell.tick (c : Cell) : Cell := { c with holdDown := countIf c.holdDownRuns c.holdDown }

/-- R130: the linger counts down while it runs. -/
def MeltWeather.tick (w : MeltWeather) : MeltWeather := { w with linger := countIf w.lingerRuns w.linger }

/-- R96: the conversion under way, if there is one, goes on into the next centisecond. -/
def Scan.tick (x : Scan) : Scan := { x with crossed := x.converter != .idle }

/-- One centisecond passes: both time bases and every running count (Introduction, "Time bases"; R14, R60, R104, R130). -/
def tick (s : State) : State :=
  { s with
    siteTime := s.siteTime + 1
    arrayClock := s.arrayClock + 1
    scan := s.scan.tick
    dishes := s.dishes.map DishRecord.tick
    cells := s.cells.map Cell.tick
    meltWeather := s.meltWeather.tick }

/-- The free values that a step has read are spent: the next step reads new ones (log entries 9 and 11). -/
def spendFree (s : State) : State := { s with freeCount := s.freeCount + 1 }

/-- What the part does when no command waits: the run of a waiting request begins (R185), or the first due command is taken, or one
centisecond passes. -/
def advance (s : State) : Host.Outcome State Fault Refusal :=
  if runStartDue s then .next (startRun (spendFree s))
  else
    match dueCommands s with
    | i :: _ => exec i (spendFree s)
    | [] => .next (tick (spendFree s))

end Machine
end Sys2Proof
end

