-- ==== Sys2Proof/Machine/Step.lean ====
section
/-! DEFINITION. The step of the machine: the command at the front of the queue, or what the part does when none waits; and the placing
of a command that a word spells. -/

namespace Sys2Proof
namespace Machine

/-- One step: the front command on the state with the rest of the queue, or the part's own due events and the passing of time. -/
def step (s : State) : Host.Outcome State Fault Refusal :=
  match s.pending with
  | i :: rest => exec i { s with pending := rest }
  | [] => advance s

/-- The state with the command a word spells at the front of its queue; no word spells one, since no row of the table gives bits. -/
def State.withFetchWord (s : State) (nbits w : Nat) : State :=
  match decodeTableWord nbits w with
  | some i => { s with pending := i :: s.pending }
  | none => s

end Machine
end Sys2Proof
end

