-- ==== Sys2Proof/Safety.lean ====
section
/-! DEFINITION. What a safe state is, in the manual's own laws: the port never holds more than its room (R184), the feed is never
committed beyond its capacity (R65), melt is never granted beyond its demand (R69), the motion order lists have one of five shapes
(R165), a cell's state and hold-down follow its reasons (R104, R106), a scan round is open only in the centisecond in which it began (R85),
and the dish, group and tag tables and the stow queue agree (R38, R54, R115, R146). Then the run of a request, in the terms the statements use. -/

namespace Sys2Proof
namespace Machine

/-- R184 and TABLE 10.1: at most four requests wait, and outstanding requests (the running one among them) and answers never number more
than eight. -/
def PortLaw (s : State) : Prop := s.port.queue.length ≤ 4 ∧ s.outstanding + s.waiting ≤ 8

/-- R65: ΣD + ΣM ≤ C. -/
def PowerLaw (s : State) : Prop := sumDrive s.drive + sumMelt s.grants ≤ s.feed.capacity

/-- TABLE 4.1: a drive reservation has a kind exactly when its level is above 0. -/
def KindLaw (s : State) : Prop := ∀ d : DishNo, s.drive[d].kind = none ↔ s.drive[d].level = 0

/-- R69: a granted duty never exceeds its demand, which never exceeds 16; under MELT coverage the demand is 0; while the overload-shed
flag is set every grant is 0. -/
def MeltLaw (s : State) : Prop :=
  ∀ d : DishNo,
    s.grants[d].duty ≤ s.circuits[d].demand ∧ s.circuits[d].demand ≤ 16 ∧ s.circuits[d].forcedDuty ≤ 16 ∧
    ((s.coverage d).melt = true → s.circuits[d].demand = 0) ∧ (s.feed.overload = true → s.grants[d].duty = 0)

/-- R165: the five shapes of a motion order list. -/
def orderShape : List Order → Bool
  | [] => true
  | [.setpoint _] => true
  | [.hold] => true
  | [.hold, .setpoint _] => true
  | [.cut] => true
  | _ => false

/-- R165: every motion order list has one of the five shapes, and a dish whose link is LOST has an empty list and an empty slot. -/
def OrderLaw (s : State) : Prop :=
  ∀ d : DishNo,
    orderShape s.bus[d].orders = true ∧ (s.bus[d].link = .lost → s.bus[d].orders = [] ∧ s.bus[d].heat = none)

/-- R104, R106: a cell's state is the one its reasons and mean call for, and its hold-down is present exactly while WIND, GUST or
SENSOR is. -/
def CellLaw (s : State) : Prop :=
  ∀ c : CellNo,
    s.cells[c].state = judgedState s.cells[c].reasons s.cells[c].mean s.cells[c].limits.watch ∧
    s.cells[c].holdDown.isSome = s.cells[c].reasons.held

/-- R67, R116: no serve is left undone between commands. -/
def ServeLaw (s : State) : Prop := s.serveDue = false

/-- R189: the items of every condition stand in rising number, each once. -/
def ItemsLaw (s : State) : Prop := ∀ k : Fin 9, s.port.conditions[k].items.Pairwise (· < ·)

/-- R163: no two transactions of one segment are under way at once. R168: one under way began in this centisecond or the one before. -/
def LineLaw (s : State) : Prop :=
  (∀ d e : DishNo, segOf d = segOf e → s.bus[d].inFlight.isSome = true → s.bus[e].inFlight.isSome = true → d = e) ∧
  ∀ d : DishNo, ∀ x ∈ s.bus[d].inFlight, x.began = s.siteTime ∨ x.began + 1 = s.siteTime

/-- The member entries of a group id; none for a free id. -/
def State.entries (s : State) (g : GroupNo) : List Member :=
  match s.groups[g] with
  | some gr => gr.members
  | none => []

/-- The dishes of a group's member list. -/
def State.memberDishes (s : State) (g : GroupNo) : List DishNo := (s.entries g).map (fun m => m.dish)

/-- R38: no dish appears twice in a member list; a dish in a member list is MEMBER or STOPPING with its group field naming that group;
a MEMBER dish names a group, and a MEMBER or STOPPING dish is in the list that its group field names. -/
def MemberLaw (s : State) : Prop :=
  (∀ g : GroupNo, (s.memberDishes g).Nodup) ∧
  (∀ g : GroupNo, ∀ d ∈ s.memberDishes g,
    (s.dishes[d].motion = .member ∨ s.dishes[d].motion = .stopping) ∧ s.dishes[d].group = some g) ∧
  (∀ d : DishNo, s.dishes[d].motion = .member → s.dishes[d].group.isSome = true) ∧
  (∀ d : DishNo, s.dishes[d].motion = .member ∨ s.dishes[d].motion = .stopping →
    ∀ g ∈ s.dishes[d].group, d ∈ s.memberDishes g)

/-- R12, R14, R18: a return mark stands only in STOPPING, where the return set it, in CUT, which keeps it, and in RESTRAINED, which both
lead to; and never on a dish in a member list. -/
def MarkLaw (s : State) : Prop :=
  ∀ d : DishNo, s.dishes[d].returnMark = true →
    (s.dishes[d].motion = .stopping ∨ s.dishes[d].motion = .cut ∨ s.dishes[d].motion = .restrained) ∧
    ∀ g : GroupNo, d ∉ s.memberDishes g

/-- R115: the stow queue holds each STOW_QUEUED dish once, and no other dish. -/
def QueueLaw (s : State) : Prop :=
  s.stowQueue.Nodup ∧ ∀ d : DishNo, d ∈ s.stowQueue ↔ s.dishes[d].motion = .stowQueued

/-- R54, R146: no dish under motion coverage is FREE or MEMBER or in any member list, and none under EL coverage is STOW_QUEUED or
STOWING. -/
def LockLaw (s : State) : Prop :=
  ∀ d : DishNo,
    ((s.coverage d).motion = true →
      s.dishes[d].motion ≠ .free ∧ s.dishes[d].motion ≠ .member ∧ ∀ g : GroupNo, d ∉ s.memberDishes g) ∧
    ((s.coverage d).el = true → s.dishes[d].motion ≠ .stowQueued ∧ s.dishes[d].motion ≠ .stowing)

/-- The dish table, the group table, the stow queue and the tag table agree (R12, R38, R54, R115, R146). -/
def SiteLaw (s : State) : Prop := MemberLaw s ∧ MarkLaw s ∧ QueueLaw s ∧ LockLaw s

/-- TABLE 1.1: a description lies within its ranges. -/
def Description.InTable (x : Description) : Prop :=
  (-270000 ≤ x.az.lower ∧ x.az.lower < x.az.upper ∧ x.az.upper ≤ 270000) ∧
  (5000 ≤ x.el.lower ∧ x.el.lower < x.el.upper ∧ x.el.upper ≤ 90000) ∧
  (1 ≤ x.az.vMax ∧ x.az.vMax ≤ 3000) ∧ (1 ≤ x.el.vMax ∧ x.el.vMax ≤ 2000) ∧
  (1 ≤ x.az.aMax ∧ x.az.aMax ≤ 2000) ∧ (1 ≤ x.el.aMax ∧ x.el.aMax ≤ 2000) ∧
  (10 ≤ x.pDrive ∧ x.pDrive ≤ 250) ∧ x.pMelt ≤ 150 ∧ (x.el.lower ≤ x.stowEl ∧ x.stowEl ≤ x.el.upper)

/-- TABLE 1.1: every dish's description lies within its ranges. -/
def DescriptionLaw (s : State) : Prop := ∀ d : DishNo, s.dishes[d].desc.InTable

/-- R85, R96: a round under way began at this site time, and the converter is at work while it lasts, on a channel of it or on a spot; the
converter is on a channel only in a round and on the pending spot exactly while that spot is converting; a spot waits only behind another
conversion; and only a spot's conversion goes on from one centisecond into the next. -/
def ScanLaw (s : State) : Prop :=
  (∀ r ∈ s.scan.round, r.start = s.siteTime ∧ s.scan.converter ≠ .idle) ∧
  (s.scan.converter = .channel → s.scan.round.isSome = true) ∧
  (s.scan.converter = .spot ↔ ∃ p ∈ s.scan.spot, p.converting = true) ∧
  (∀ p ∈ s.scan.spot, p.converting = false → s.scan.converter = .channel ∨ s.scan.converter = .dropped) ∧
  (s.scan.crossed = true → s.scan.converter = .spot ∨ s.scan.converter = .dropped)

/-- The six small laws together: TABLE 4.1, R67, R189, R163, TABLE 1.1, R85. -/
def TidyLaw (s : State) : Prop := KindLaw s ∧ ServeLaw s ∧ ItemsLaw s ∧ LineLaw s ∧ DescriptionLaw s ∧ ScanLaw s

/-! ### Values and replies on the drive bus -/

/-- A value that 24 bits of two's complement hold (Introduction, "Numbers and names in the text"). -/
def In24 (x : Int) : Prop := -8388608 ≤ x ∧ x < 8388608

/-- The twelve bytes with which the drive at an address reports a reply (TABLE 11.7). -/
def replyBytes (addr : Nat) (r : Reply) : List Byte :=
  let o := r.observed
  let body := put8 addr ++ put8 r.refused.toNat ++ putAngle o.position.az ++ putAngle o.position.el ++
    put8 (o.azState.number * 16 + o.elState.number) ++ put8 o.fault.number ++ put8 o.heaterOn.toNat
  body ++ [crc body]

/-! ### The run of a request -/

/-- R185: it is a request's turn: its run has begun and has not ended, or no request is running and it stands at the head of the queue. -/
def Turn (r : Request) (s : State) : Prop :=
  s.port.running = some r ∨ (s.port.running = none ∧ s.port.queue.head? = some r)

/-- It is a request's turn, and its frame has a length that its code allows (R185, R186). -/
def Ready (r : Request) (s : State) : Prop :=
  Turn r s ∧ (frameLengths r.code.toNat).contains (r.params.length + 4) = true

/-- R185: the run of a request whose turn it is has begun: its request has left the queue, now or before. -/
def State.begun (r : Request) (s : State) : State :=
  if s.port.running = some r then s else s.modPort (fun p => { p with queue := p.queue.tail, running := some r })

/-- R185, R187: the run of a request has ended with this answer at the tail of the answer queue. -/
def State.ended (r : Request) (st : Status) (results : List Byte) (s : State) : State :=
  s.modPort (fun p => { p with running := none, answers := p.answers ++ [⟨r.code, r.label, st, results⟩] })

/-- A run that changes nothing but the port and answers. -/
def State.replied (r : Request) (st : Status) (results : List Byte) (s : State) : State := (s.begun r).ended r st results

end Machine
end Sys2Proof
end

