-- ==== Sys2Proof/Certificates/Slice0/Obligations.lean ====
section
/-! DEFINITION. The statements for the provers: what each command does, what each shared operation does, that what the port reads is
what was sent, and the manual's own laws as invariants of every step. A request statement takes a request of an allowed length whose turn
it is (Ready: its run is under way, or it stands at the head of the queue and none is running) and gives the whole next state, so that it is
its own frame; State.begun is the state once that run has begun. -/

open Sys2Proof Sys2Proof.Machine

/-! ### The step and the port -/

/-- The step takes the command at the front of the queue and runs it on the state with the rest. -/
def Obligations.StepRunsFrontCommand : Prop :=
  ∀ (c : Instr) (q : List Instr) (s : State), step { s with pending := c :: q } = exec c { s with pending := q }

/-- With no command waiting: R185, a request at the head of the queue is removed and its run begins where none is running. Otherwise log
entries 9 and 11 (the model's choice): the part takes the first due event of its own, the end of a run that does not go on before any other;
each such step reads free values of its own, which the count freeCount tells apart; the conversion under way ends with a raw value that is
one of them, at any place among the other events; and where none is due, one centisecond passes (R14, R60, R104, R130) for both time bases
and for every count that runs. No centisecond passes while a boundary, a round or a window event of this instant is still to be taken (R85,
R134, R135, R163), while a conversion of a scan round is under way (R85), or a spot's (R96) or a transaction (R168) that the last
centisecond left, nor from the last of a poll round while a visit of it is still to be made or to end (R163). -/
def Obligations.EmptyQueueTakesDueEventOrPassesTime : Prop :=
  ∀ s : State, s.pending = [] →
    (∀ r rest, s.port.running = none → s.port.queue = r :: rest →
      step s = .next { s with port := { s.port with queue := rest, running := some r }, freeCount := s.freeCount + 1 }) ∧
    (s.port.running.isSome = true ∨ s.port.queue = [] →
      (∀ i rest, dueCommands s = i :: rest → step s = exec i { s with freeCount := s.freeCount + 1 }) ∧
      (∀ r, s.port.running = some r → dueCommands s =
        (if Config.runGoesOn s.freeCount then [] else [commandOf r]) ++
          dueCommands { s with port := { s.port with running := none } }) ∧
      (s.port.running = none → Config.conversionGoesOn s.freeCount = false →
        let raw := Config.sampled s.freeCount
        (∀ r, s.scan.converter = .channel → s.scan.round = some r →
          (dueCommands s).head? = some (if r.chan = 15 then .scanRoundEnd raw else .conversionEnd raw)) ∧
        (s.scan.converter = .spot ∨ s.scan.converter = .dropped → (dueCommands s).head? = some (.spotConversionEnd raw))) ∧
      (dueCommands s = [] → ∃ t, step s = .next t ∧
        t = { s with siteTime := s.siteTime + 1, arrayClock := s.arrayClock + 1, dishes := t.dishes, cells := t.cells,
                     scan := { s.scan with crossed := decide (s.scan.converter ≠ .idle) },
                     meltWeather := { s.meltWeather with linger := t.meltWeather.linger }, freeCount := s.freeCount + 1 } ∧
        (∀ d : DishNo, t.dishes[d] = { s.dishes[d] with quiet :=
          if s.dishes[d].motion = .cut ∧ s.dishes[d].quietStopped = false then s.dishes[d].quiet.map (· - 1) else s.dishes[d].quiet }) ∧
        (∀ c : CellNo, t.cells[c] = { s.cells[c] with holdDown :=
          if s.cells[c].mean < s.cells[c].limits.release ∧ s.cells[c].sensorLost = false then s.cells[c].holdDown.map (· - 1)
          else s.cells[c].holdDown }) ∧
        t.meltWeather.linger =
          if s.meltWeather.on = true ∧ s.meltWeather.precip[(0 : SensorNo)].reading = some false ∧
             s.meltWeather.precip[(1 : SensorNo)].reading = some false then s.meltWeather.linger.map (· - 1)
          else s.meltWeather.linger)) ∧
    (dueCommands s = [] →
      (s.siteTime % 1600 = 0 → s.meltWeather.lastBoundary = some s.siteTime) ∧
      (s.siteTime % 25 = 0 → s.scan.round.isSome = true ∨ s.scan.lastStart = some s.siteTime) ∧
      (∀ d : DishNo, ∀ x ∈ s.bus[d].inFlight, x.began = s.siteTime) ∧
      (s.scan.converter = .channel → s.scan.round = none) ∧
      (s.scan.converter = .spot ∨ s.scan.converter = .dropped → s.scan.round = none ∧ s.scan.crossed = false) ∧
      (∀ d : DishNo, s.ownDue d = false ∧ ∀ w ∈ s.circuits[d].window, s.siteTime < w.closes) ∧
      (∀ g : SegNo, s.siteTime % 10 = 0 → s.engines[g].roundStart = some s.siteTime) ∧
      (∀ g : SegNo, s.siteTime % 10 = 9 → s.nextVisit g = none ∧ ∀ d : DishNo, segOf d = g → s.bus[d].inFlight = none))

/-- Every command answers a next state (log entry 25, deduced: the manual names no event that stops the part), and leaves the queue of
waiting commands as it is; that POWER_ON_RESET leaves it too is log entry 8, the model's choice. -/
def Obligations.EveryCommandGoesOnAndKeepsTheQueue : Prop :=
  ∀ (c : Instr) (s : State), ∃ t, exec c s = .next t ∧ t.pending = s.pending

/-- R1, R37, R60, R64, R86, R100, R126, R143, R162, R179: the values the manual gives for a power-on reset. -/
def Obligations.ResetValues : Prop :=
  (State.reset.siteTime = 0 ∧ State.reset.arrayClock = 0) ∧
  (∀ d : DishNo,
    State.reset.dishes[d].present = false ∧ State.reset.dishes[d].motion = .restrained ∧
    State.reset.dishes[d].returnMark = false ∧ State.reset.dishes[d].group = none ∧ State.reset.dishes[d].targets = none ∧
    State.reset.dishes[d].cutReason = none ∧ State.reset.dishes[d].quiet = none ∧ State.reset.dishes[d].observed = none ∧
    State.reset.dishes[d].desc = ⟨0, 0, ⟨-270000, 270000, 3000, 2000⟩, ⟨5000, 90000, 2000, 2000⟩, 10, 0, 90000⟩ ∧
    State.reset.coverage d = ⟨false, false, false⟩ ∧ State.reset.stowDemand d = false ∧ State.reset.blocked d = none ∧
    State.reset.iced d = false) ∧
  (∀ g : GroupNo, State.reset.groups[g] = none) ∧
  (∀ d : DishNo, State.reset.drive[d] = ⟨0, none⟩ ∧ State.reset.grants[d] = ⟨0, 0⟩) ∧
  State.reset.feed = ⟨0, 4, 0, false, 0, 0, none, false⟩ ∧
  (∀ k : ChanNo, State.reset.scan.channels[k] = ⟨none, none, .failed, 0, 0, false⟩) ∧
  (State.reset.scan.mode = .normal ∧ State.reset.scan.outRun = 0 ∧ State.reset.scan.inRun = 0 ∧ State.reset.scan.spot = none ∧
    State.reset.scan.lastEnd = none) ∧
  (∀ c : CellNo, State.reset.cells[c] =
    ⟨0, none, 0, none, none, .calm, ⟨false, false, false, false, false⟩, none, false, 0, ⟨120, 180, 250, 140, 120000⟩⟩) ∧
  (State.reset.stowQueue = [] ∧ (∀ d : DishNo, State.reset.stowMoves[d] = none) ∧ State.reset.siteCode = 0 ∧
    State.reset.detector = .disabled ∧ State.reset.stowLine = false) ∧
  (∀ d : DishNo, State.reset.circuits[d].mode = .off ∧ State.reset.circuits[d].forcedDuty = 16 ∧
    State.reset.circuits[d].demand = 0 ∧ State.reset.circuits[d].window = none ∧ State.reset.circuits[d].arrears = 0 ∧
    State.reset.circuits[d].iced = false) ∧
  ((∀ z : ZoneNo, State.reset.meltWeather.zones[z].temp = none) ∧
    (∀ k : SensorNo, State.reset.meltWeather.precip[k] = ⟨none, 0⟩) ∧ State.reset.meltWeather.on = false ∧
    State.reset.meltWeather.linger = none ∧ State.reset.settings = ⟨240, 180000, 300, 20, 30000⟩) ∧
  (∀ k : TagNo, State.reset.tags[k] = none) ∧
  (∀ d : DishNo, State.reset.bus[d] = ⟨[], none, none, .lost, 0, none, 0, none, false⟩) ∧
  (State.reset.port.queue = [] ∧ State.reset.port.answers = [] ∧ State.reset.port.running = none ∧
    State.reset.port.lastFrame = .taken ∧ (∀ k : Fin 9, State.reset.port.conditions[k] = ⟨false, []⟩) ∧
    State.reset.attn = false)

/-- R179: POWER_ON_RESET brings every block back to its power-on values, from any state. Log entry 8 (the model's choice): the commands
still waiting and the count of free values read stay. -/
def Obligations.PowerOnResetRestoresEverything : Prop :=
  ∀ s : State, exec .powerOnReset s = .next { State.reset with pending := s.pending, freeCount := s.freeCount }

/-- R180, R181: the fall of NSEL takes a snapshot; the exchange shifts out the status byte, the head answer's length in units, that answer
padded to whole units, then fill; the snapshot holds an answer, and that answer stands at the head, exactly when the answer queue is not
empty. TABLE 11.2: the bytes of an answer; TABLE 11.3, TABLE 11.5: the numbers of the outcomes and of the status codes. A second fall while
NSEL is low is ignored (log entry 10, the model's choice). -/
def Obligations.ExchangeBeginTakesSnapshot : Prop :=
  (∀ s : State,
    (s.port.exchange.isSome = true → exec .exchangeBegin s = .next s) ∧
    (s.port.exchange = none → ∃ x : Exchange,
      exec .exchangeBegin s = .next { s with port := { s.port with exchange := some x } } ∧
      x.byteOut 0 = BitVec.ofNat 8 (s.port.lastFrame.number * 64 +
        min (4 - s.port.queue.length) (8 - s.outstanding - s.waiting) * 8 +
        (if s.port.answers = [] then 0 else 4) + (if s.port.conditionPending then 2 else 0)) ∧
      (x.live = true ↔ s.port.answers ≠ []) ∧ (x.answer.isSome = true ↔ s.port.answers ≠ []) ∧
      (s.port.answers = [] → ∀ k, 1 ≤ k → x.byteOut k = 0) ∧
      (∀ a rest, s.port.answers = a :: rest →
        x.units = ceilDiv (6 + a.results.length) 8 ∧ x.byteOut 1 = BitVec.ofNat 8 (ceilDiv (6 + a.results.length) 8) ∧
        (∀ k, x.byteOut (2 + k) = (answerBytes a).getD k 0) ∧
        (answerBytes a).length = 8 * ceilDiv (6 + a.results.length) 8))) ∧
  (∀ a : Answer,
    let r := a.results.length
    let head : List Byte := [a.code, a.label, BitVec.ofNat 8 a.status.number, BitVec.ofNat 8 (r / 256), BitVec.ofNat 8 r] ++ a.results
    answerBytes a = head ++ [crc head] ++ List.replicate (8 * ceilDiv (6 + r) 8 - (6 + r)) 0x00) ∧
  ([FrameOutcome.taken, .refusedFull, .badFrame, .truncated].map FrameOutcome.number = List.range 4) ∧
  ([Status.ok, .badValue, .unknownRequest, .noSuch, .groupExists, .dishBusy, .groupMoving, .alreadyMember, .locked, .iced, .icedMember,
    .windWatch, .stowPending, .powerShort, .feedOverload, .holderMismatch, .duplicateTag, .tagTableFull, .windHigh, .notStowed,
    .spotBusy, .unreachable].map Status.number = List.range 22)

/-- R182, R183: NSEL rises. A delivered head answer that still stands leaves first; then the frame is judged by the checks in order, and a
taken frame joins the tail of the request queue. Without an exchange the rise is ignored (log entry 10, the model's choice). -/
def Obligations.ExchangeEndDeliversThenJudgesTheFrame : Prop :=
  ∀ (bytes : List Byte) (s : State),
    (s.port.exchange = none → exec (.exchangeEnd bytes) s = .next s) ∧
    ∀ x, s.port.exchange = some x →
      let gone := x.live = true ∧ x.answer.isSome = true ∧ 2 + 8 * x.units ≤ bytes.length
      let s1 := { s with port := { s.port with exchange := none, answers := if gone then s.port.answers.tail else s.port.answers } }
      let n := (bytes.headD 0).toNat
      let frame := bytes.take n
      exec (.exchangeEnd bytes) s = .next (
        if n = 0 then s1
        else if n < 4 ∨ 64 < n then { s1 with port := { s1.port with lastFrame := .badFrame } }
        else if bytes.length < n then { s1 with port := { s1.port with lastFrame := .truncated } }
        else if crc frame.dropLast ≠ frame.getLastD 0 then { s1 with port := { s1.port with lastFrame := .badFrame } }
        else if s1.port.queue.length ≥ 4 ∨ s1.outstanding + s1.waiting ≥ 8 then
          { s1 with port := { s1.port with lastFrame := .refusedFull } }
        else
          { s1 with port := { s1.port with
              lastFrame := .taken
              queue := s1.port.queue ++ [⟨frame.getD 1 0, frame.getD 2 0, (frame.drop 3).take (n - 4)⟩] } })

/-- TABLE 11.4: the frame lengths of every code, none for a code absent from it. R186: a request on its turn whose code names none is
answered UNKNOWN_REQUEST; one whose frame length its code does not allow is answered BAD_VALUE; neither changes anything but the port's
queues. UNKNOWN_REQUEST with a code that names a request is ignored (log entry 10, the model's choice). -/
def Obligations.UnknownOrIllSizedRequestsChangeNothing : Prop :=
  (∀ (r : Request) (s : State), Turn r s →
    (knownCode r.code = false → exec (commandOf r) s = .next (s.replied r .unknownRequest [])) ∧
    (knownCode r.code = true → (r.params.length + 4) ∉ frameLengths r.code.toNat →
      exec (commandOf r) s = .next (s.replied r .badValue [])) ∧
    (knownCode r.code = true → exec (.unknownRequest r.code r.label r.params) s = .next s)) ∧
  (∀ code : Byte,
    (knownCode code = true ↔ frameLengths code.toNat ≠ []) ∧
    frameLengths code.toNat =
      if code = 0x10 then [6, 30, 33]
      else if code = 0x21 then [6, 12]
      else if code ∈ ([0x31, 0x39, 0x71, 0x72] : List Byte) then [4]
      else if code ∈ ([0x11, 0x12, 0x13, 0x14, 0x24, 0x25, 0x26, 0x27, 0x38, 0x41, 0x42, 0x43, 0x52, 0x62, 0x63] : List Byte) then [5]
      else if code ∈ ([0x22, 0x30, 0x44] : List Byte) then [6]
      else if code ∈ ([0x50, 0x61] : List Byte) then [7]
      else if code ∈ ([0x60, 0x70] : List Byte) then [8]
      else if code ∈ ([0x20, 0x23] : List Byte) then [11]
      else if code = 0x40 then [16]
      else if code = 0x51 then [17]
      else [])

/-- Log entry 7 (the model's choice): a request command whose request's turn it is not stands for its frame's arrival. Taken into an empty
queue while none is running it runs at once; taken behind others it waits; not taken it is forgotten with the outcome R183 gives. -/
def Obligations.RequestElsewhereIsTakenFirst : Prop :=
  ∀ (r : Request) (s : State), ¬ Turn r s →
    (Turn r (takeFrame r s) → exec (commandOf r) s = exec (commandOf r) (takeFrame r s)) ∧
    (¬ Turn r (takeFrame r s) → exec (commandOf r) s = .next (takeFrame r s)) ∧
    (Turn r (takeFrame r s) ↔
      s.port.running = none ∧ s.port.queue = [] ∧ r.params.length ≤ 60 ∧ s.outstanding + s.waiting < 8)

/-! ### Dish requests (Chapter 1) -/

/-- R2, R176: DESCRIBE DISH, its checks in order; the parameters ask for a description exactly when every field lies in its range of TABLE
1.1, and that description carries the fields sent. R2, R68, R141, R176: all that a dish made not present loses; a transaction of it under
way is marked, the free-power signal follows where melt was reserved, and nothing else changes. -/
def Obligations.DescribeDishChecksInOrder : Prop :=
  (∀ (label : Byte) (params : List Byte) (s : State),
    let r : Request := ⟨0x10, label, params⟩
    Ready r s →
    exec (.describeDish label params) s = .next (
      match asFin 48 (readDescribe params).dish, describeWish (readDescribe params) with
      | some d, some wish =>
        if s.dishes[d].motion ≠ .restrained then s.replied r .dishBusy []
        else
          match wish with
          | some desc =>
            let s1 := (s.begun r).modDish d (fun x => { x with present := true, desc := desc })
            let s2 := s1.modBus d (fun b =>
              { b with orders := [], heat := none, link := .lost, failures := 0, lastStage := none, goodCount := 0
                       countdown := some 1, fresh := false })
            (if s.dishes[d].present = true then s1 else s2).ended r .ok []
          | none =>
            if tagsOn s d = [] then (serveIfDue (describeAbsent d (s.begun r))).ended r .ok [] else s.replied r .dishBusy []
      | _, _ => s.replied r .badValue [])) ∧
  (∀ (a : DescribeArgs) (desc : Description), describeWish a = some (some desc) → desc.InTable ∧ a.present = 1) ∧
  (∀ a : DescribeArgs, describeWish a = some none ↔ a.present = 0 ∧ a.fields = none) ∧
  (∀ (a : DescribeArgs) (f : DescribeFields) (desc : Description), a.fields = some f →
    let stowEl := f.stowEl.getD 90000
    (describeWish a = some (some desc) ↔ a.present = 1 ∧
      (f.cell ≤ 7 ∧ f.zone ≤ 3) ∧ (-270000 ≤ f.azLower ∧ f.azLower < f.azUpper ∧ f.azUpper ≤ 270000) ∧
      (5000 ≤ f.elLower ∧ f.elLower < f.elUpper ∧ f.elUpper ≤ 90000) ∧
      (1 ≤ f.azVMax ∧ f.azVMax ≤ 3000 ∧ 1 ≤ f.elVMax ∧ f.elVMax ≤ 2000) ∧
      (1 ≤ f.azAMax ∧ f.azAMax ≤ 2000 ∧ 1 ≤ f.elAMax ∧ f.elAMax ≤ 2000) ∧
      (10 ≤ f.pDrive ∧ f.pDrive ≤ 250 ∧ f.pMelt ≤ 150) ∧ (f.elLower ≤ stowEl ∧ stowEl ≤ f.elUpper) ∧
      desc.cell.val = f.cell ∧ desc.zone.val = f.zone ∧ desc.az = ⟨f.azLower, f.azUpper, f.azVMax, f.azAMax⟩ ∧
      desc.el = ⟨f.elLower, f.elUpper, f.elVMax, f.elAMax⟩ ∧ desc.pDrive = f.pDrive ∧ desc.pMelt = f.pMelt ∧
      desc.stowEl = stowEl)) ∧
  (∀ (d : DishNo) (s : State),
    describeAbsent d s = { s with
      dishes := s.dishes.set d
        { s.dishes[d] with
          present := false, desc := ⟨0, 0, ⟨-270000, 270000, 3000, 2000⟩, ⟨5000, 90000, 2000, 2000⟩, 10, 0, 90000⟩, observed := none }
      bus := s.bus.set d
        { s.bus[d] with
          orders := [], heat := none, link := .lost, countdown := none, fresh := false
          inFlight := s.bus[d].inFlight.map (fun x => { x with orphan := true }) }
      circuits := s.circuits.set d { s.circuits[d] with demand := 0, window := none }
      grants := s.grants.set d ⟨0, 0⟩
      serveDue := if ceilDiv (s.grants[d].rate * s.grants[d].duty) 16 = 0 then s.serveDue else true })

/-- R7, R17: RESUME DISH and WRITE OFF DISH, their checks in order. A resumed dish is settled. A written-off dish loses what it retains and
stays UNREACHABLE; one that holds nothing changes nothing. -/
def Obligations.ResumeAndWriteOffDish : Prop :=
  (∀ (label n : Byte) (s : State),
     let r : Request := ⟨0x11, label, [n]⟩
     Ready r s →
     exec (.resumeDish label [n]) s = .next (
       match asFin 48 n.toNat with
       | none => s.replied r .badValue []
       | some d =>
         if s.dishes[d].present = false then s.replied r .noSuch []
         else if s.dishes[d].motion ≠ .restrained then s.replied r .dishBusy []
         else if s.bus[d].link = .lost then s.replied r .unreachable []
         else
           match s.dishes[d].observed with
           | none => s.replied r .dishBusy []
           | some o =>
             if (o.azState = .still ∨ o.azState = .arrived) ∧ (o.elState = .still ∨ o.elState = .arrived) then
               (serveIfDue (settle d (s.begun r))).ended r .ok []
             else s.replied r .dishBusy [])) ∧
  (∀ (label n : Byte) (s : State),
     let r : Request := ⟨0x14, label, [n]⟩
     Ready r s → s.serveDue = false →
     exec (.writeOffDish label [n]) s = .next (
       match asFin 48 n.toNat with
       | none => s.replied r .badValue []
       | some d =>
         if s.dishes[d].present = false then s.replied r .noSuch []
         else if s.dishes[d].motion ≠ .unreachable then s.replied r .dishBusy []
         else
           let s1 := { s.begun r with drive := s.drive.set d ⟨0, none⟩ }
           (if s.drive[d].level = 0 then s1 else serve s1).ended r .ok []))

/-- R8: RESTRAIN DISH. No order is posted, and a dish restrained while its stow is demanded is blocked for RESTRAINED. -/
def Obligations.RestrainDishTakesAStillDishOutOfUse : Prop :=
  ∀ (label n : Byte) (s : State),
    let r : Request := ⟨0x12, label, [n]⟩
    Ready r s →
    ∃ t, exec (.restrainDish label [n]) s = .next t ∧
      (∀ d : DishNo, t.bus[d] = s.bus[d]) ∧
      match asFin 48 n.toNat with
      | none => t = s.replied r .badValue []
      | some d =>
        if s.dishes[d].present = false then t = s.replied r .noSuch []
        else if s.dishes[d].motion = .free ∨ s.dishes[d].motion = .locked then
          t = ((s.begun r).modDish d (fun x => { x with motion := .restrained })).ended r .ok [] ∧
          t.blocked d = (if s.stowDemand d then some .restrained else none)
        else if s.dishes[d].motion = .restrained then t = s.replied r .ok []
        else t = s.replied r .dishBusy []

/-! ### Group requests (Chapter 3) -/

/-- R40: OPEN GROUP. -/
def Obligations.OpenGroupCreatesAnEmptyRecord : Prop :=
  ∀ (label : Byte) (params : List Byte) (s : State),
    let r : Request := ⟨0x20, label, params⟩
    let a := readTarget params
    Ready r s →
    exec (.openGroup label params) s = .next (
      match asFin 8 a.group with
      | none => s.replied r .badValue []
      | some g =>
        if ¬ (0 ≤ a.az ∧ a.az ≤ 359999 ∧ 5000 ≤ a.el ∧ a.el ≤ 90000) then s.replied r .badValue []
        else if s.groups[g].isSome = true then s.replied r .groupExists []
        else
          { s.begun r with groups := s.groups.set g (some ⟨.opened, ⟨a.az, a.el⟩, [], [], none, none, none, none⟩) }.ended
            r .ok [])

/-- R41, R9, R44: ADD MEMBER, its checks in order; on OK the dish is MEMBER of the group and the new entry stands at the tail of the list of
the group, which reopens if it had ended. -/
def Obligations.AddMemberChecksInOrder : Prop :=
  ∀ (label : Byte) (params : List Byte) (s : State),
    let r : Request := ⟨0x21, label, params⟩
    let a := readAdd params
    Ready r s →
    exec (.addMember label params) s = .next (
      match asFin 8 a.group, asFin 48 a.dish with
      | some g, some d =>
        if ¬ (∀ o ∈ a.offsets, o.az.natAbs ≤ 10000 ∧ o.el.natAbs ≤ 10000) then s.replied r .badValue []
        else
          match s.groups[g] with
          | none => s.replied r .noSuch []
          | some gr =>
            if s.dishes[d].present = false then s.replied r .noSuch []
            else if gr.state = .moving ∨ gr.state = .halting then s.replied r .groupMoving []
            else if ∃ h : GroupNo, d ∈ s.memberDishes h then s.replied r .alreadyMember []
            else if (s.coverage d).az = true ∨ (s.coverage d).el = true then s.replied r .locked []
            else if s.dishes[d].motion ≠ .free then s.replied r .dishBusy []
            else if s.circuits[d].iced = true then s.replied r .iced []
            else
              let entry : Member := ⟨d, a.offsets, .waiting, false, none, none, none, none, none⟩
              let s1 := (s.begun r).modDish d (fun x => { x with motion := .member, group := some g })
              { s1 with groups := s.groups.set g (some { gr.reopened with members := gr.reopened.members ++ [entry] }) }.ended
                r .ok []
      | _, _ => s.replied r .badValue [])

/-- R42, R9: DROP MEMBER deletes the entry, keeps the group's state and settles the dish; that a dish without an entry in a moving group
gets NO_SUCH, not GROUP_MOVING, is log entry 30 (the model's choice). R43, R44: AIM GROUP replaces the target; an ended group reopens: it
goes to OPEN, its entries to WAITING without start instant, deadline and arrival stamp, and everything else of the record stays. -/
def Obligations.DropMemberAndAimGroup : Prop :=
  (∀ (label n k : Byte) (s : State),
     let r : Request := ⟨0x22, label, [n, k]⟩
     Ready r s →
     exec (.dropMember label [n, k]) s = .next (
       match asFin 8 n.toNat, asFin 48 k.toNat with
       | some g, some d =>
         match s.groups[g] with
         | none => s.replied r .noSuch []
         | some gr =>
           if d ∉ s.memberDishes g then s.replied r .noSuch []
           else if gr.state = .moving ∨ gr.state = .halting then s.replied r .groupMoving []
           else
             let left := { gr with members := gr.members.filter (fun m => m.dish ≠ d) }
             (serveIfDue (settle d { s.begun r with groups := s.groups.set g (some left) })).ended r .ok []
       | _, _ => s.replied r .badValue [])) ∧
  (∀ (label : Byte) (params : List Byte) (s : State),
     let r : Request := ⟨0x23, label, params⟩
     let a := readTarget params
     Ready r s →
     exec (.aimGroup label params) s = .next (
       match asFin 8 a.group with
       | none => s.replied r .badValue []
       | some g =>
         if ¬ (0 ≤ a.az ∧ a.az ≤ 359999 ∧ 5000 ≤ a.el ∧ a.el ≤ 90000) then s.replied r .badValue []
         else
           match s.groups[g] with
           | none => s.replied r .noSuch []
           | some gr =>
             if gr.state = .moving ∨ gr.state = .halting then s.replied r .groupMoving []
             else
               let aimed : Group :=
                 if gr.state = .opened then { gr with target := ⟨a.az, a.el⟩ }
                 else
                   { gr with
                     state := .opened
                     target := ⟨a.az, a.el⟩
                     members := gr.members.map (fun m =>
                       { m with sub := .waiting, start := none, deadline := none, arrival := none }) }
               { s.begun r with groups := s.groups.set g (some aimed) }.ended r .ok []))

/-- R45, R28, R30, R36: START GROUP, its checks in order and its four answers that the planner gives, with their results; P_avail (R70) is
written out in LookUpsAnswerTheRecordAndChangeNothing. -/
def Obligations.StartGroupChecksInOrder : Prop :=
  ∀ (label n : Byte) (s : State),
    let r : Request := ⟨0x24, label, [n]⟩
    Ready r s →
    exec (.startGroup label [n]) s = .next (
      match asFin 8 n.toNat with
      | none => s.replied r .badValue []
      | some g =>
        match s.groups[g] with
        | none => s.replied r .noSuch []
        | some gr =>
          let ps := planGroup s gr
          let results := fun (move span : Nat) (stretched : Bool) =>
            put32 move ++ put32 span ++ putFlag stretched ++
            putList (fun (p : MemberPlan) => put8 p.dish.val) (ps.filter (fun p => p.clamped))
          if gr.state = .moving ∨ gr.state = .halting then s.replied r .groupMoving []
          else if gr.state ≠ .opened ∨ gr.members = [] then s.replied r .badValue []
          else if ∃ m ∈ gr.members, s.circuits[m.dish].iced = true then s.replied r .icedMember []
          else if s.stowQueue ≠ [] then s.replied r .stowPending []
          else if s.feed.overload = true then s.replied r .feedOverload []
          else if ∃ p ∈ ps, s.cells[s.dishes[p.dish].desc.cell].state = .watch ∧ p.target.el < s.settings.watchFloor then
            s.replied r .windWatch []
          else if fullTime ps = 0 then
            (startStill g gr ps (s.begun r)).ended r .ok (results 0 0 false)
          else
            match chooseTime ps s.pAvail with
            | none => s.replied r .powerShort (putPower (leastLoad ps) ++ putPower s.pAvail)
            | some move =>
              (startMoving g gr ps move (s.begun r)).ended r .ok
                (results move (move + s.settings.settleMargin) (fullTime ps < move)))

/-- R26, R31, R33, R34, R46: an accepted start that moves. Melt is shed above the floor for what the group load lacks; every member's dish,
in a list without repeats, gets its commanded targets, its load term as a SLEW reservation and its SETPOINT; every entry is MOVING with its
CLAMPED mark, targets and profile; and every other dish keeps its record, reservation and order list. R47: an accepted start that moves
nothing writes the entries ARRIVED with their stamps, raises GROUP_ENDED, and posts and grants nothing. -/
def Obligations.AcceptedStartMovesEveryMember : Prop :=
  (∀ (g : GroupNo) (gr : Group) (move : Nat) (s : State),
    let ps := planGroup s gr
    let load := groupLoad ps move
    let u := shed s.feed.meltFloor (load + sumDrive s.drive + sumMelt s.grants - s.feed.capacity) s
    let t := startMoving g gr ps move s
    (gr.members.map (fun m => m.dish)).Nodup →
    (∀ p ∈ ps,
      t.dishes[p.dish] = { s.dishes[p.dish] with targets := some p.target } ∧
      t.drive[p.dish] = DriveRes.withKind .slew ⟨loadTerm p move, none⟩ ∧
      t.bus[p.dish] = (postMotion p.dish (.setpoint (slewSetpoint p (memberProfile s p move) (s.siteTime + 50))) u).bus[p.dish] ∧
      t.bus[p.dish].orders =
        if s.bus[p.dish].link = .active then
          postList (.setpoint (slewSetpoint p (memberProfile s p move) (s.siteTime + 50))) s.bus[p.dish].orders
        else s.bus[p.dish].orders) ∧
    (∀ d : DishNo, d ∉ ps.map (fun p => p.dish) →
      t.dishes[d] = s.dishes[d] ∧ t.drive[d] = s.drive[d] ∧ t.bus[d] = u.bus[d] ∧ t.bus[d].orders = s.bus[d].orders) ∧
    (∀ d : DishNo, t.bus[d].heat = u.bus[d].heat) ∧
    t = { s with
      dishes := t.dishes, drive := t.drive, bus := t.bus, grants := u.grants, circuits := u.circuits
      groups := s.groups.set g (some
        { gr with
          state := .moving
          members := (gr.members.zip ps).map (fun e =>
            { e.1 with
              sub := .moving, clamped := e.2.clamped, targets := some e.2.target
              profile := some (memberProfile s e.2 move), start := none, deadline := none, arrival := none })
          removals := []
          startStamp := some s.arrayClock
          tMove := some move
          tG := some (move + s.settings.settleMargin)
          startInstant := some (s.siteTime + 50) }) }) ∧
  (∀ (g : GroupNo) (gr : Group) (s : State),
    let ps := planGroup s gr
    let t := startStill g gr ps s
    (gr.members.map (fun m => m.dish)).Nodup →
    (∀ p ∈ ps, t.dishes[p.dish] = { s.dishes[p.dish] with targets := some p.target }) ∧
    (∀ d : DishNo, d ∉ ps.map (fun p => p.dish) → t.dishes[d] = s.dishes[d]) ∧
    t = { s with
      dishes := t.dishes
      port := (raise .groupEnded [g.val] s).port
      groups := s.groups.set g (some
        { gr with
          state := .arrived
          members := (gr.members.zip ps).map (fun e =>
            { e.1 with
              sub := .arrived, clamped := e.2.clamped, targets := some e.2.target, profile := none
              start := none, deadline := none, arrival := some s.arrayClock })
          removals := []
          startStamp := some s.arrayClock
          tMove := some 0
          tG := some 0
          startInstant := none }) })

/-- R57, R58: HALT GROUP and DISBAND GROUP, their checks in order (the DISBAND GROUP answer's count byte is log entry 5, the model's
choice). At a halt every moving member's dish is STOPPING with HOLD posted and its reservation of kind STOP, and its entry loses its
deadline; a group with no moving member is HALTED at once and raises GROUP_ENDED; nothing else changes. R11: what stopping a dish does. R53,
R57: what a removal does, and how a group is judged. -/
def Obligations.HaltAndDisbandGroup : Prop :=
  (∀ (label n : Byte) (s : State),
    let r : Request := ⟨0x25, label, [n]⟩
    Ready r s →
    exec (.haltGroup label [n]) s = .next (
      match asFin 8 n.toNat with
      | none => s.replied r .badValue []
      | some g =>
        match s.groups[g] with
        | none => s.replied r .noSuch []
        | some gr =>
          if gr.state = .moving then
            let s1 := halt g gr (s.begun r)
            s1.ended r .ok (match s1.groups[g] with | some x => put8 x.state.number | none => [])
          else s.replied r .ok (put8 gr.state.number))) ∧
  (∀ (g : GroupNo) (gr : Group) (s : State), s.groups[g] = some gr → gr.state = .moving →
    (∀ m ∈ gr.members, m.sub = .moving → (halt g gr s).dishes[m.dish].motion = .stopping) ∧
    ((halt g gr s).groups[g].map Group.state = some (if ∃ m ∈ gr.members, m.sub = .moving then .halting else .halted))) ∧
  (∀ (g : GroupNo) (gr : Group) (s : State), s.groups[g] = some gr → gr.state = .moving →
    (gr.members.map (fun m => m.dish)).Nodup →
    let t := halt g gr s
    (∀ m ∈ gr.members, m.sub = .moving →
      t.dishes[m.dish] = { s.dishes[m.dish] with motion := .stopping } ∧
      (s.dishes[m.dish].motion ≠ .stopping →
        t.drive[m.dish] = (if s.drive[m.dish].level = 0 then ⟨0, none⟩ else ⟨s.drive[m.dish].level, some .stop⟩) ∧
        t.bus[m.dish] = (postMotion m.dish .hold s).bus[m.dish] ∧ t.stowMoves[m.dish] = none)) ∧
    (∀ d : DishNo, s.dishes[d].motion = .stopping ∨ (∀ m ∈ gr.members, m.sub = .moving → m.dish ≠ d) →
      t.dishes[d] = s.dishes[d] ∧ t.drive[d] = s.drive[d] ∧ t.bus[d] = s.bus[d] ∧ t.stowMoves[d] = s.stowMoves[d]) ∧
    t = { s with
      dishes := t.dishes, drive := t.drive, bus := t.bus, stowMoves := t.stowMoves
      port := if ∃ m ∈ gr.members, m.sub = .moving then s.port else (raise .groupEnded [g.val] s).port
      groups := s.groups.set g (some
        (if ∃ m ∈ gr.members, m.sub = .moving then
          { gr with
            state := .halting, members := gr.members.map (fun m => if m.sub = .moving then { m with deadline := none } else m) }
        else { gr with state := .halted, members := gr.members.map (fun m => { m with sub := .waiting }) })) }) ∧
  (∀ (d : DishNo) (keep : Bool) (s : State),
    let t := goStopping d keep s
    t.dishes = s.dishes.set d
      { s.dishes[d] with motion := .stopping, group := if keep = true then s.dishes[d].group else none } ∧
    (s.dishes[d].motion = .stopping → t = { s with dishes := t.dishes }) ∧
    (s.dishes[d].motion ≠ .stopping →
      t = { s with
        dishes := t.dishes, bus := (postMotion d .hold s).bus, stowMoves := s.stowMoves.set d none
        drive := s.drive.set d (if s.drive[d].level = 0 then ⟨0, none⟩ else ⟨s.drive[d].level, some .stop⟩) })) ∧
  (∀ (g : GroupNo) (d : DishNo) (why : RemovalReason) (transition : State → State) (s : State) (gr : Group),
    s.groups[g] = some gr →
    removeMember g d why transition s = judgeGroup g (transition { s with
      groups := s.groups.set g (some
        { gr with
          members := gr.members.filter (fun m => m.dish ≠ d)
          removals := gr.removals.filter (fun e => e.1 ≠ d) ++ [(d, why)] })
      dishes := s.dishes.set d { s.dishes[d] with group := none } })) ∧
  (∀ (g : GroupNo) (gr : Group) (s : State), s.groups[g] = some gr →
    judgeGroup g s =
      if (∀ m ∈ gr.members, m.sub ≠ .moving) ∧ gr.state = .moving then
        raise .groupEnded [g.val] { s with
          groups := s.groups.set g (some { gr with state := if gr.removals = [] then .arrived else .partially }) }
      else if (∀ m ∈ gr.members, m.sub ≠ .moving) ∧ gr.state = .halting then
        raise .groupEnded [g.val] { s with
          groups := s.groups.set g (some
            { gr with state := .halted, members := gr.members.map (fun m => { m with sub := .waiting }) }) }
      else s) ∧
  (∀ (label n : Byte) (s : State),
    let r : Request := ⟨0x26, label, [n]⟩
    Ready r s →
    exec (.disbandGroup label [n]) s = .next (
      match asFin 8 n.toNat with
      | none => s.replied r .badValue []
      | some g =>
        match s.groups[g] with
        | none => s.replied r .noSuch []
        | some gr =>
          if gr.state = .moving ∨ gr.state = .halting then s.replied r .groupMoving []
          else
            let s1 := gr.members.foldl (fun t m => settle m.dish t) (s.begun r)
            (serveIfDue { s1 with groups := s1.groups.set g none }).ended r .ok (putList (fun m => put8 m.dish.val) gr.members)))

/-! ### Power, sensors, wind, melt, tags and site requests -/

/-- R80: SET FEED. A capacity below ΣD is refused with ΣD; otherwise C takes it, melt is shed down to it, and the queue is served. The melt
power shed that is answered counts that shedding alone, not what the serve sheds (log entry 29, the model's choice). -/
def Obligations.SetFeedShedsDownToTheNewCapacity : Prop :=
  ∀ (label : Byte) (params : List Byte) (s : State),
    let r : Request := ⟨0x30, label, params⟩
    let asked := field16 params 0
    let taken := min asked 4000
    Ready r s →
    exec (.setFeed label params) s = .next (
      if taken < sumDrive s.drive then s.replied r .powerShort (putPower (sumDrive s.drive))
      else
        let s1 := { s.begun r with feed := { s.feed with capacity := taken } }
        let s2 := shed 0 (sumDrive s.drive + sumMelt s.grants - taken) s1
        (serve s2).ended r .ok (put16 taken ++ putFlag (4000 < asked) ++ putPower (sumMelt s.grants - sumMelt s2.grants)))

/-- R107, R108, R109, R112: SET WIND LIMITS, FORCE STOW, RELEASE STOW and SET SITE CODE: their checks in order, what they change of a cell
or of the detector, and the judgement that follows (FORCE STOW answers its states under a count byte: log entry 5, the model's choice).
R106: the judgement of a cell, and the STOW line, driven while some cell is in STOW. R113, TABLE 6.5: what the stow entry visit does with a
dish; R75, R114, R118: direct conversion and the stow move; R123: the leaving visit. -/
def Obligations.WindRequestsActAsTheirRulesSay : Prop :=
  (∀ (label : Byte) (params : List Byte) (s : State),
    let r : Request := ⟨0x40, label, params⟩
    let l := (readWind params).limits
    Ready r s →
    exec (.setWindLimits label params) s = .next (
      match asFin 8 (readWind params).cell with
      | none => s.replied r .badValue []
      | some c =>
        if 700 < l.watch ∨ 700 < l.stowMean ∨ 700 < l.gust ∨ 700 < l.release ∨ l.holdDown < 100 ∨ 360000 < l.holdDown ∨
           l.stowMean ≤ l.release ∨ l.gust < l.stowMean ∨ l.stowMean ≤ l.watch then s.replied r .badValue []
        else
          let s1 := serveIfDue (judgeCell c ((s.begun r).modCell c (fun x =>
            if l.stowMean ≤ x.mean then
              { x with limits := l, reasons := { x.reasons with wind := true }, holdDown := some l.holdDown }
            else { x with limits := l, holdDown := x.holdDown.map (fun h => min h l.holdDown) })))
          s1.ended r .ok (put8 s1.cells[c].state.number))) ∧
  (∀ (label n : Byte) (s : State),
    let r : Request := ⟨0x42, label, [n]⟩
    Ready r s →
    exec (.forceStow label [n]) s = .next (
      match (if n = 0xFF then some allCells else (asFin 8 n.toNat).map (fun c => [c])) with
      | none => s.replied r .badValue []
      | some cs =>
        let s1 := serveIfDue (cs.foldl (fun t c =>
          judgeCell c (t.modCell c (fun x => { x with reasons := { x.reasons with forced := true } }))) (s.begun r))
        s1.ended r .ok (putList (fun c => put8 s1.cells[c].state.number) cs))) ∧
  (∀ (label n : Byte) (s : State),
    let r : Request := ⟨0x43, label, [n]⟩
    Ready r s →
    exec (.releaseStow label [n]) s = .next (
      match asFin 8 n.toNat with
      | none => s.replied r .badValue []
      | some c =>
        if s.cells[c].reasons.forced = false ∧ s.cells[c].reasons.external = false then s.replied r .notStowed []
        else if s.cells[c].limits.release ≤ s.cells[c].mean ∨ 0 < s.cells[c].gustRun then s.replied r .windHigh []
        else
          let s1 := serveIfDue (judgeCell c ((s.begun r).modCell c (fun x =>
            { x with reasons := { x.reasons with forced := false, external := false } })))
          s1.ended r .ok (putReasons s1.cells[c].reasons ++ put8 s1.cells[c].state.number))) ∧
  (∀ (label hi lo : Byte) (s : State),
     let r : Request := ⟨0x44, label, [hi, lo]⟩
     let code : BitVec 16 := hi ++ lo
     Ready r s →
     exec (.setSiteCode label [hi, lo]) s = .next
       ({ s.begun r with
           siteCode := code
           detector := if code = 0x0000 ∨ code = 0xFFFF then .disabled else .sync 0 }.ended r .ok (put16 s.siteCode.toNat))) ∧
  (∀ (c : CellNo) (s : State),
    let x := s.cells[c]
    let new : CellState :=
      if x.reasons.wind = true ∨ x.reasons.gust = true ∨ x.reasons.sensor = true ∨ x.reasons.forced = true ∨
         x.reasons.external = true then .stow
      else if x.limits.watch ≤ x.mean then .watch
      else .calm
    let s1 := raise .stowChanged [c.val] { s with cells := s.cells.set c { x with state := new } }
    let ds := allDishes.filter (fun d => s.dishes[d].present = true ∧ s.dishes[d].desc.cell = c)
    judgeCell c s =
      if new = x.state then s
      else if new = .stow then serve (ds.foldl (fun t d => enterStow d t) s1)
      else if x.state = .stow then serve (ds.foldl (fun t d => leaveStow d t) s1)
      else s1) ∧
  (∀ s : State, s.stowLine = true ↔ ∃ c : CellNo, s.cells[c].state = .stow) ∧
  (∀ (d : DishNo) (s : State),
    let queued := { s with
      dishes := s.dishes.set d { s.dishes[d] with motion := .stowQueued }
      stowQueue := s.stowQueue ++ [d]
      serveDue := true }
    enterStow d s = (
      match s.dishes[d].motion, s.memberOf d with
      | .free, _ => queued
      | .locked, _ => if (s.coverage d).el = true then s else queued
      | .member, some (g, m) => removeMember g d .stow (if m.sub = .moving then convertOrHold d else settle d) s
      | .stopping, some (g, _) => removeMember g d .stow id s
      | _, _ => s)) ∧
  (∀ (d : DishNo) (s : State),
    leaveStow d s = (
      match s.dishes[d].motion with
      | .stowQueued =>
        settle d { s with
          stowQueue := s.stowQueue.filter (fun e => e ≠ d)
          serveDue := if s.stowQueue.head? = some d then true else s.serveDue }
      | .stowed => settle d s
      | _ => s)) ∧
  (∀ (d : DishNo) (s : State),
    let need := s.dishes[d].desc.pDrive
    let u := shed 0 (need + sumDrive s.drive + sumMelt s.grants - (s.feed.capacity + s.drive[d].level)) s
    convertOrHold d s =
      if need + sumDrive s.drive ≤ s.feed.capacity + s.drive[d].level then
        startStow d { u with drive := s.drive.set d (if need = 0 then ⟨0, none⟩ else ⟨need, some .stow⟩) }
      else goStopping d false s) ∧
  (∀ (d : DishNo) (s : State) (o : Observed), s.dishes[d].observed = some o →
    let x := s.dishes[d]
    startStow d s = { s with
      dishes := s.dishes.set d { x with motion := .stowing, group := none, targets := some ⟨o.position.az, x.desc.stowEl⟩ }
      stowMoves := s.stowMoves.set d (some
        ⟨axisTime (x.desc.stowEl - o.position.el).natAbs x.desc.el.vMax x.desc.el.aMax, s.settings.settleMargin, none, none⟩)
      bus := (postMotion d
        (.setpoint ⟨.stow, ⟨o.position.az, 0, 0⟩, ⟨x.desc.stowEl, x.desc.el.vMax, x.desc.el.aMax⟩⟩) s).bus })

/-- R133, R127: SET MELT MODE and SET MELT LIMITS, their checks in order, what they replace, and their answers. The duty byte answered
outside FORCED is a free value (log entry 1, the model's choice). TABLE 11.4: the modes a byte names. R131 (TABLE 7.4): the demand. R69, R72:
a grant above its demand is lowered to it and refitted, which makes the free-power signal due (R67). R140: the judgement of a circuit's ICED
flag, dish by dish. -/
def Obligations.MeltRequestsReplaceSettings : Prop :=
  (∀ (label n m v : Byte) (s : State),
    let r : Request := ⟨0x50, label, [n, m, v]⟩
    let duty := min 16 v.toNat
    Ready r s →
    exec (.setMeltMode label [n, m, v]) s = .next (
      match (if n = 0xFF then some allDishes else (asFin 48 n.toNat).map (fun d => [d])), modeOf m.toNat with
      | some ds, some mode =>
        if mode = .forced ∧ v = 0 then s.replied r .badValue []
        else
          let s1 := serveIfDue (ds.foldl (fun t d =>
            lowerToDemand d (computeDemand d (t.modCircuit d (fun c =>
              { c with mode := mode, forcedDuty := if mode = .forced then duty else c.forcedDuty })))) (s.begun r))
          let s2 := if mode = .forced then s1 else { s1 with freeCount := s1.freeCount + 1 }
          s2.ended r .ok
            (put8 mode.number ++ (if mode = .forced then put8 duty else [Config.freeByte s1.freeCount]) ++
              putFlag (mode = .forced ∧ 16 < v.toNat) ++
              match ds with
              | [d] => put8 s2.circuits[d].demand ++ put8 s2.grants[d].duty
              | _ => [])
      | _, _ => s.replied r .badValue [])) ∧
  (∀ (label : Byte) (params : List Byte) (s : State),
    let r : Request := ⟨0x51, label, params⟩
    let a := readLimits params
    Ready r s →
    exec (.setMeltLimits label params) s = .next (
      if a.meltFloor ≤ 8 ∧ 16 ≤ a.settings.iceLimit ∧ a.settings.iceLimit ≤ 1023 ∧ 1000 ≤ a.settings.snowLinger ∧
         a.settings.snowLinger ≤ 720000 ∧ a.settings.settleMargin ≤ 1000 ∧ 1 ≤ a.settings.arrivalWindow ∧
         a.settings.arrivalWindow ≤ 1000 ∧ 5000 ≤ a.settings.watchFloor ∧ a.settings.watchFloor ≤ 90000 then
        (forDishes judgeIced
          { s.begun r with
            settings := a.settings
            feed := { s.feed with meltFloor := a.meltFloor }
            meltWeather := { s.meltWeather with linger := s.meltWeather.linger.map (fun l => min l a.settings.snowLinger) } }).ended
          r .ok (limitsParams ⟨s.feed.meltFloor, s.settings⟩)
      else s.replied r .badValue [])) ∧
  (∀ n : Nat, modeOf n = if n = 0 then some .off else if n = 1 then some .auto else if n = 2 then some .forced else none) ∧
  (∀ (d : DishNo) (s : State),
    let x := s.circuits[d]
    let limit := s.settings.iceLimit
    computeDemand d s = { s with
      circuits := s.circuits.set d { x with demand :=
          if s.dishes[d].present = false ∨ (s.coverage d).melt = true ∨ x.mode = .off then 0
          else if x.mode = .forced then x.forcedDuty
          else if s.meltWeather.on = false then 0
          else
            match s.meltWeather.zones[s.dishes[d].desc.zone].temp with
            | none => 16
            | some temp => if 20 < temp then 0 else min 16 (4 + ((20 - temp) / 10).toNat) } } ∧
    lowerToDemand d s = (if x.demand < s.grants[d].duty then { lowerDuty d x.demand s with serveDue := true } else s) ∧
    (let judged := { s with
       circuits := s.circuits.set d { x with iced := if limit ≤ x.arrears then true else if 2 * x.arrears < limit then false else x.iced } }
     judgeIced d s = if limit ≤ x.arrears ∧ x.iced = false then raise .iced [d.val] judged else judged)) ∧
  (∀ (f : DishNo → State → State) (s : State), forDishes f s = (List.finRange 48).foldl (fun t d => f d t) s)

/-- R145: PLACE TAG, its checks in order, and its results; an accepted one fills the lowest empty slot, and no other tag changes. TABLE
11.4: the scopes a byte names. R146, TABLE 8.3, R147: what a coverage gained does with the dish and its heater (the order of its two serves
is log entry 13, deduced). R148: the new tag is HELD exactly when the dish, after those effects, is linked, settled and seen at rest. -/
def Obligations.PlaceTagFillsTheLowestEmptySlot : Prop :=
  (∀ (label : Byte) (params : List Byte) (s : State),
    let r : Request := ⟨0x60, label, params⟩
    let a := readPlace params
    Ready r s →
    exec (.placeTag label params) s = .next (
      match asFin 48 a.dish, scopeOf a.scope with
      | some d, some scope =>
        if a.holder = 0 then s.replied r .badValue []
        else if s.dishes[d].present = false then s.replied r .badValue []
        else if ∃ e ∈ tagsOn s d, e.2.holder = a.holder ∧ e.2.scope.overlaps scope = true then
          s.replied r .duplicateTag []
        else
          match allTags.find? (fun k => s.tags[k].isNone) with
          | none => s.replied r .tagTableFull []
          | some k =>
            let tag : Tag := ⟨a.holder, d, scope, .stopping, s.arrayClock⟩
            let s1 := fillSlot k tag (s.begun r)
            s1.ended r .ok
              (put8 k.val ++ put8 ((s1.tags[k].map (fun x => x.state.number)).getD 0) ++ put32 s.arrayClock.toNat ++
               putCoverage (s1.coverage d) ++ put8 s1.dishes[d].motion.number ++
               putFlag ((∃ g : GroupNo, d ∈ s.memberDishes g) ∧ ∀ g : GroupNo, d ∉ s1.memberDishes g))
      | _, _ => s.replied r .badValue [])) ∧
  (∀ n : Nat, scopeOf n =
    if n = 0 then some .az else if n = 1 then some .el else if n = 2 then some .motion else if n = 3 then some .melt
    else if n = 4 then some .all else none) ∧
  (∀ (k : TagNo) (tag : Tag) (s : State),
    (∃ st, (fillSlot k tag s).tags[k] = some { tag with state := st }) ∧
    ∀ j : TagNo, j ≠ k → (fillSlot k tag s).tags[j] = s.tags[j]) ∧
  (∀ (k : TagNo) (tag : Tag) (s : State),
    let d := tag.dish
    let s1 := { s with tags := s.tags.set k (some tag) }
    let was := s.coverage d
    let is := s1.coverage d
    let u := gainCoverage d ⟨is.az && !was.az, is.el && !was.el, is.melt && !was.melt⟩ s1
    let resting := u.bus[d].link = .active ∧
      (u.dishes[d].motion = .restrained ∨ u.dishes[d].motion = .free ∨ u.dishes[d].motion = .locked ∨
        u.dishes[d].motion = .stowQueued ∨ u.dishes[d].motion = .stowed ∨
        (u.dishes[d].motion = .member ∧ u.movingMember d = false)) ∧
      ∃ o, u.dishes[d].observed = some o ∧ (o.azState = .still ∨ o.azState = .arrived) ∧ (o.elState = .still ∨ o.elState = .arrived)
    (resting → fillSlot k tag s = serveIfDue { u with tags := u.tags.set k (some { tag with state := .held }) }) ∧
    (¬ resting → fillSlot k tag s = serveIfDue { u with tags := u.tags.set k (some { tag with state := .stopping }) })) ∧
  (∀ (d : DishNo) (gained : Coverage) (s : State),
    let locked := { s with dishes := s.dishes.set d { s.dishes[d] with motion := .locked } }
    let stopped := fun (g : GroupNo) (m : Member) =>
      removeMember g d .locked
        (fun t => if m.sub = .moving ∨ t.dishes[d].motion = .stopping then goStopping d false t else settle d t) s
    let moved :=
      match s.dishes[d].motion, s.memberOf d with
      | .free, _ => locked
      | .member, some (g, m) => stopped g m
      | .stopping, some (g, m) => stopped g m
      | .stowQueued, _ =>
        if gained.el = true then
          { locked with
            stowQueue := s.stowQueue.filter (fun e => e ≠ d)
            serveDue := if s.stowQueue.head? = some d then true else s.serveDue }
        else s
      | .stowing, _ => if gained.el = true then goStopping d false s else s
      | _, _ => s
    let s1 := if gained.az = true ∨ gained.el = true then serveIfDue moved else s
    gainCoverage d gained s = if gained.melt = true then meltLockout d s1 else s1) ∧
  (∀ (d : DishNo) (s : State),
    meltLockout d s = { s with
      circuits := s.circuits.set d { s.circuits[d] with demand := 0, window := none }
      grants := s.grants.set d { s.grants[d] with duty := 0 }
      bus := (postHeat d false s).bus
      serveDue := if ceilDiv (s.grants[d].rate * s.grants[d].duty) 16 = 0 then s.serveDue else true })

/-- R54, R146, TABLE 8.3: what new motion coverage leaves of the dish, from any state in which the tables agree: at rest it is LOCKED, in
motion STOPPING with HOLD posted, its level kept with kind STOP and no stow move, outside motion control as it was, and in no group's list;
the group it has left lists its removal with reason LOCKED. -/
def Obligations.NewMotionCoverageLocksOrStopsTheDish : Prop :=
  ∀ (k : TagNo) (tag : Tag) (s : State),
    SiteLaw s → s.tags[k] = none → s.serveDue = false → s.dishes[tag.dish].present = true →
    (s.coverage tag.dish).az = false → (s.coverage tag.dish).el = false →
    (tag.scope = .el ∨ tag.scope = .motion ∨ tag.scope = .all) →
    let d := tag.dish
    let t := fillSlot k tag s
    (∀ g : GroupNo, d ∉ t.memberDishes g) ∧
    t.dishes[d].motion = (
      match s.dishes[d].motion with
      | .free => .locked
      | .stowQueued => .locked
      | .stowing => .stopping
      | .member => if s.movingMember d then .stopping else .locked
      | m => m) ∧
    (t.dishes[d].motion = .stopping → s.dishes[d].motion ≠ .stopping →
      t.drive[d] = s.drive[d].withKind .stop ∧ t.stowMoves[d] = none ∧
      t.bus[d].orders = if s.bus[d].link = .active then postList .hold s.bus[d].orders else s.bus[d].orders) ∧
    (∀ g : GroupNo, d ∈ s.memberDishes g →
      (t.groups[g].bind (fun gr => gr.removals.getLast?)) = some (d, .locked))

/-- R152, R153, R154: RELEASE TAG, its checks in order; an accepted one empties the slot, a LOCKED dish that loses motion coverage is
settled, and lost MELT coverage has the demand computed afresh. -/
def Obligations.ReleaseTagEmptiesTheSlot : Prop :=
  ∀ (label : Byte) (params : List Byte) (s : State),
    let r : Request := ⟨0x61, label, params⟩
    let a := readRelease params
    Ready r s →
    exec (.releaseTag label params) s = .next (
      match asFin 64 a.tag with
      | none => s.replied r .badValue []
      | some k =>
        if a.holder = 0 then s.replied r .badValue []
        else
          match s.tags[k] with
          | none => s.replied r .noSuch []
          | some tag =>
            if tag.holder ≠ a.holder then s.replied r .holderMismatch []
            else
              let d := tag.dish
              let s1 := { s.begun r with tags := s.tags.set k none }
              let was := s.coverage d
              let is := s1.coverage d
              let s2 :=
                if ((was.az = true ∧ is.az = false) ∨ (was.el = true ∧ is.el = false)) ∧ s.dishes[d].motion = .locked then settle d s1
                else s1
              let s3 := if was.melt = true ∧ is.melt = false then s2.modCircuit d (fun c => { c with demand := s2.demandOf d }) else s2
              let s4 := serveIfDue s3
              s4.ended r .ok
                (put8 d.val ++ put8 tag.scope.number ++ put8 tag.state.number ++ putCoverage (s4.coverage d) ++
                 put8 s4.dishes[d].motion.number))

/-- R61: SET CLOCK. The clock takes the value; its answer carries the value replaced and the site time; nothing else changes. -/
def Obligations.SetClockReplacesOnlyTheArrayClock : Prop :=
  ∀ (label b3 b2 b1 b0 : Byte) (s : State),
    let r : Request := ⟨0x70, label, [b3, b2, b1, b0]⟩
    Ready r s →
    exec (.setClock label [b3, b2, b1, b0]) s = .next
      ({ s.begun r with arrayClock := b3 ++ b2 ++ b1 ++ b0 }.ended r .ok (put32 s.arrayClock.toNat ++ put32 s.siteTime))

/-- R189: READ CONDITIONS reports the nine conditions and clears them. R191: RESET COORDINATION discards the queues and the conditions, and
its own answer stands alone, with the counts of what it discarded; an exchange under way keeps its bytes, its answer gone. R98: a pending
spot is discarded, one under way with its result dropped. R21, R63: every group is gone; a moving member is STOPPING with HOLD posted, its
level kept with kind STOP and its stow record none; a resting one FREE; a STOPPING dish names no group. That the commanded targets of each
stay is log entry 17 (deduced). R177: every slew SETPOINT leaves its list, also one whose transaction is in flight; HOLD, CUT and STOW
SETPOINT entries, heat slots, link records, countdowns and fresh marks stay. R100 and the rest: cells, tags, queue, stow moves, scan records
and mode, circuits, grants, feed, settings, engines and both time bases stay. -/
def Obligations.ConditionAndResetRequests : Prop :=
  (∀ (label : Byte) (s : State),
    let r : Request := ⟨0x71, label, []⟩
    Ready r s →
    exec (.readConditions label []) s = .next
      (((s.begun r).modPort (fun p => { p with conditions := Vector.replicate 9 ⟨false, []⟩ })).ended r .ok
        ((List.finRange 9).flatMap (fun k =>
          putFlag s.port.conditions[k].flag ++ if k.val < 6 then putList (fun n => put8 n) s.port.conditions[k].items else [])))) ∧
  (∀ (label : Byte) (s : State),
    let r : Request := ⟨0x72, label, []⟩
    Ready r s →
    ∃ t, exec (.resetCoordination label []) s = .next t ∧
      t = { s with
        dishes := t.dishes, drive := t.drive, stowMoves := t.stowMoves, bus := t.bus
        groups := Vector.replicate 8 none
        scan := { s.scan with spot := none, converter := if s.scan.converter = .spot then .dropped else s.scan.converter }
        port := { s.port with
          queue := [], running := none
          answers := [⟨0x72, label, .ok,
            put8 (s.begun r).port.queue.length ++ put8 s.port.answers.length ++ putFlag s.scan.spot.isSome⟩]
          conditions := Vector.replicate 9 ⟨false, []⟩
          exchange := s.port.exchange.map (fun x => { x with live := false }) } } ∧
      t.outstanding = 0 ∧ t.waiting = 1 ∧ t.attn = true ∧
      ∀ d : DishNo,
        let x := s.dishes[d]
        let stops := x.motion = .member ∧ s.movingMember d = true
        let b := if stops then (postMotion d .hold s).bus[d] else s.bus[d]
        let slew : Order → Bool := fun o => match o with | .setpoint ⟨.slew _, _, _⟩ => true | _ => false
        t.dishes[d] = (
          if x.motion = .member then { x with motion := if s.movingMember d = true then .stopping else .free, group := none }
          else if x.motion = .stopping then { x with group := none }
          else x) ∧
        t.drive[d] = (if stops then s.drive[d].withKind .stop else s.drive[d]) ∧
        t.stowMoves[d] = (if stops then none else s.stowMoves[d]) ∧
        t.bus[d] = { b with
          orders := b.orders.filter (fun o => !slew o)
          inFlight := b.inFlight.map (fun f =>
            match f.sent with
            | .motion _ => { f with headGone := f.headGone || (b.orders.head?.map slew).getD false }
            | _ => f) } ∧
        (stops → s.bus[d].link = .active → t.bus[d].orders = postList .hold s.bus[d].orders))

/-- R20, R178, R59, R84, R99, R125, R142, R157, R158: a look-up answers the record as it stands and changes nothing else; and the fields of
the six longer answers, in order and width. R144, TABLE 8.2: the coverage that the tags naming a dish give it, and which scopes overlap;
TABLE 1.3: the stow blocked reason. R194: a flag, a field that may be absent, a list; the two sets of bits; and the number of every named
value, its place in the table that first lists it. TABLE 4.3, R68, R70: ΣD, ΣM and the sum of the floor levels over the dishes, and the
three measures of power from them, in their order. What R194 leaves open of these layouts (presence bytes of pairs, first of two named
values, series of fixed length without a count, the coding of an order entry, the two precipitation sensors one after the other, a cell's
limits and hold-down remaining in the width of R107's ranges) is log entry 5, the model's choice. -/
def Obligations.LookUpsAnswerTheRecordAndChangeNothing : Prop :=
  (∀ (label n : Byte) (s : State),
    (Ready ⟨0x13, label, [n]⟩ s → exec (.lookUpDish label [n]) s = .next (
      match asFin 48 n.toNat with
      | none => s.replied ⟨0x13, label, [n]⟩ .badValue []
      | some d => s.replied ⟨0x13, label, [n]⟩ .ok (putDish s d ++ putBus s.bus[d]))) ∧
    (Ready ⟨0x27, label, [n]⟩ s → exec (.lookUpGroup label [n]) s = .next (
      match asFin 8 n.toNat with
      | none => s.replied ⟨0x27, label, [n]⟩ .badValue []
      | some g =>
        match s.groups[g] with
        | none => s.replied ⟨0x27, label, [n]⟩ .noSuch []
        | some gr => s.replied ⟨0x27, label, [n]⟩ .ok (putGroup g gr ++ put32 s.siteTime))) ∧
    (Ready ⟨0x31, label, []⟩ s → exec (.lookUpBudget label []) s = .next (s.replied ⟨0x31, label, []⟩ .ok (putBudget s))) ∧
    (Ready ⟨0x39, label, []⟩ s → exec (.lookUpChannels label []) s = .next
      (s.replied ⟨0x39, label, []⟩ .ok (putScan s.scan ++ put32 s.siteTime))) ∧
    (Ready ⟨0x41, label, [n]⟩ s → exec (.lookUpCell label [n]) s = .next (
      match asFin 8 n.toNat with
      | none => s.replied ⟨0x41, label, [n]⟩ .badValue []
      | some c => s.replied ⟨0x41, label, [n]⟩ .ok (putCellLookUp s c))) ∧
    (Ready ⟨0x52, label, [n]⟩ s → exec (.lookUpMelt label [n]) s = .next (
      match asFin 48 n.toNat with
      | none => s.replied ⟨0x52, label, [n]⟩ .badValue []
      | some d => s.replied ⟨0x52, label, [n]⟩ .ok (putMeltLookUp s d))) ∧
    (Ready ⟨0x62, label, [n]⟩ s → exec (.lookUpTag label [n]) s = .next (
      match asFin 64 n.toNat with
      | none => s.replied ⟨0x62, label, [n]⟩ .badValue []
      | some k =>
        match s.tags[k] with
        | none => s.replied ⟨0x62, label, [n]⟩ .noSuch []
        | some t =>
          s.replied ⟨0x62, label, [n]⟩ .ok
            (put8 k.val ++ put16 t.holder ++ put8 t.dish.val ++ put8 t.scope.number ++ put8 t.state.number ++ put32 t.stamp.toNat ++
             putCoverage (s.coverage t.dish) ++ put8 s.dishes[t.dish].motion.number ++ put8 s.bus[t.dish].link.number ++
             put32 s.siteTime ++ put32 s.arrayClock.toNat))) ∧
    (Ready ⟨0x63, label, [n]⟩ s → exec (.listTags label [n]) s = .next (
      match asFin 48 n.toNat with
      | none => s.replied ⟨0x63, label, [n]⟩ .badValue []
      | some d =>
        s.replied ⟨0x63, label, [n]⟩ .ok
          (putList (fun (e : TagNo × Tag) => put8 e.1.val ++ put16 e.2.holder ++ put8 e.2.scope.number ++ put8 e.2.state.number)
              (allTags.filterMap (fun k => s.tags[k].bind (fun t => if t.dish = d then some (k, t) else none))) ++
            putCoverage (s.coverage d) ++ put8 (allTags.countP (fun k => s.tags[k].isNone)))))) ∧
  (∀ (d : DishNo) (s : State),
    (∀ k : TagNo, ∀ t : Tag, (k, t) ∈ tagsOn s d ↔ s.tags[k] = some t ∧ t.dish = d) ∧
    ((s.coverage d).az = true ↔ ∃ k : TagNo, ∃ t ∈ s.tags[k], t.dish = d ∧ (t.scope = .az ∨ t.scope = .motion ∨ t.scope = .all)) ∧
    ((s.coverage d).el = true ↔ ∃ k : TagNo, ∃ t ∈ s.tags[k], t.dish = d ∧ (t.scope = .el ∨ t.scope = .motion ∨ t.scope = .all)) ∧
    ((s.coverage d).melt = true ↔ ∃ k : TagNo, ∃ t ∈ s.tags[k], t.dish = d ∧ (t.scope = .melt ∨ t.scope = .all)) ∧
    s.blocked d =
      if s.cells[s.dishes[d].desc.cell].state ≠ .stow then none
      else
        match s.dishes[d].motion with
        | .restrained => some .restrained
        | .cut => some .cut
        | .unreachable => some .unreachable
        | .stopping => some .stopping
        | .locked => if (s.coverage d).el = true then some .lockedEl else none
        | _ => none) ∧
  (∀ a b : Scope,
    a.coverage =
      (match a with
        | .az => ⟨true, false, false⟩
        | .el => ⟨false, true, false⟩
        | .motion => ⟨true, true, false⟩
        | .melt => ⟨false, false, true⟩
        | .all => ⟨true, true, true⟩) ∧
    (a.overlaps b = true ↔
      (a.coverage.az = true ∧ b.coverage.az = true) ∨ (a.coverage.el = true ∧ b.coverage.el = true) ∨
      (a.coverage.melt = true ∧ b.coverage.melt = true))) ∧
  ((∀ b : Bool, putFlag b = put8 (if b = true then 1 else 0)) ∧
    (∀ (α : Type) (f : α → List Byte),
      putOption f none = put8 0 ∧ (∀ a, putOption f (some a) = put8 1 ++ f a) ∧
      ∀ l : List α, putList f l = put8 l.length ++ l.flatMap f) ∧
    (∀ v : Int, putPower v = putInt16 v ∧ putConverted (.number v) = putInt16 v) ∧
    (∀ wet : Bool, putConverted (.wetness wet) = put8 (if wet = true then 0 else 1)) ∧
    (∀ c : Coverage, putCoverage c = put8
      ((if c.az = true then 1 else 0) + (if c.el = true then 2 else 0) + (if c.melt = true then 4 else 0))) ∧
    (∀ x : Reasons, putReasons x = put8
      ((if x.wind = true then 1 else 0) + (if x.gust = true then 2 else 0) + (if x.sensor = true then 4 else 0) +
       (if x.forced = true then 8 else 0) + (if x.external = true then 16 else 0)))) ∧
  ([MotionState.restrained, .free, .member, .stopping, .locked, .stowQueued, .stowing, .stowed, .cut, .unreachable].map
      MotionState.number = List.range 10 ∧
    [CutReason.overrun, .falseArrival, .driveFault, .driveRefused].map CutReason.number = List.range 4 ∧
    [BlockedReason.restrained, .lockedEl, .cut, .unreachable, .stopping].map BlockedReason.number = List.range 5 ∧
    [GroupState.opened, .moving, .halting, .arrived, .partially, .halted].map GroupState.number = List.range 6 ∧
    [SubState.waiting, .moving, .arrived].map SubState.number = List.range 3 ∧
    [RemovalReason.locked, .stow, .lost, .overrun, .falseArrival, .driveFault, .driveRefused].map RemovalReason.number = List.range 7 ∧
    [ResKind.slew, .stow, .stop, .retained].map ResKind.number = List.range 4 ∧
    [ChanStatus.good, .held, .failed].map ChanStatus.number = List.range 3 ∧
    [RefMode.normal, .fault].map RefMode.number = List.range 2 ∧
    [CellState.calm, .watch, .stow].map CellState.number = List.range 3 ∧
    [MeltMode.off, .auto, .forced].map MeltMode.number = List.range 3 ∧
    [WindowKind.own, .carried].map WindowKind.number = List.range 2 ∧
    [Scope.az, .el, .motion, .melt, .all].map Scope.number = List.range 5 ∧
    [TagState.stopping, .held].map TagState.number = List.range 2 ∧
    [Link.active, .lost].map Link.number = List.range 2 ∧
    [Stage.noEcho, .badEcho, .short, .badCheck].map Stage.number = List.range 4) ∧
  (∀ (d : DishNo) (s : State),
    let x := s.dishes[d]
    let desc := x.desc
    let b := s.bus[d]
    let pick := fun (first : Bool) => put8 (if first = true then 0 else 1)
    putDish s d =
      putFlag x.present ++ put8 desc.cell.val ++ put8 desc.zone.val ++ putAngle desc.az.lower ++ putAngle desc.az.upper ++
      put24 desc.el.lower.toNat ++ put24 desc.el.upper.toNat ++ put16 desc.az.vMax ++ put16 desc.el.vMax ++ put16 desc.az.aMax ++
      put16 desc.el.aMax ++ put8 desc.pDrive ++ put8 desc.pMelt ++ put24 desc.stowEl.toNat ++ put8 x.motion.number ++
      putFlag x.returnMark ++ putOption (fun g => put8 g.val) x.group ++
      putOption (fun (a : Angles) => putAngle a.az ++ putAngle a.el) x.targets ++
      putOption (fun (c : CutReason) => put8 c.number) x.cutReason ++ putOption put16 x.quiet ++
      (match x.observed with
        | none => put8 0 ++ put8 0 ++ put8 0 ++ put8 0 ++ put8 0
        | some o =>
          put8 1 ++ putAngle o.position.az ++ putAngle o.position.el ++ put8 1 ++ put8 o.azState.number ++ put8 1 ++
          put8 o.elState.number ++ put8 1 ++ put8 o.fault.number ++ put8 1 ++ pick o.heaterOn) ++
      putCoverage (s.coverage d) ++ putFlag (s.cells[desc.cell].state = .stow) ++
      putOption (fun (r : BlockedReason) => put8 r.number) (s.blocked d) ++ putFlag s.circuits[d].iced ∧
    putBus b =
      put8 b.link.number ++ put8 b.failures ++ putOption (fun (e : Stage) => put8 e.number) b.lastStage ++ put16 b.goodCount ++
      putOption put8 b.countdown ++ putFlag b.fresh ++
      putList (fun (o : Order) =>
        match o with
        | .setpoint sp =>
          put8 0 ++ put8 (match sp.kind with | .slew _ => 0 | .stow => 1) ++ putAngle sp.az.target ++ put16 sp.az.rate ++
          put16 sp.az.accel ++ putAngle sp.el.target ++ put16 sp.el.rate ++ put16 sp.el.accel
        | .hold => put8 1
        | .cut => put8 2) b.orders ++
      put8 (match b.heat with | none => 0 | some true => 1 | some false => 2) ++ putFlag b.inFlight.isSome) ∧
  (∀ (g : GroupNo) (gr : Group),
    putGroup g gr =
      put8 g.val ++ put8 gr.state.number ++ put24 gr.target.az.toNat ++ put24 gr.target.el.toNat ++
      putOption (fun (c : Clock) => put32 c.toNat) gr.startStamp ++ putOption put32 gr.tMove ++ putOption put32 gr.tG ++
      putOption put32 gr.startInstant ++
      putList (fun (m : Member) =>
        put8 m.dish.val ++ putOption (fun (o : Angles) => putInt16 o.az ++ putInt16 o.el) m.offsets ++ put8 m.sub.number ++
        putFlag m.clamped ++
        putOption (fun (p : Profile) => put16 p.azRate ++ put16 p.azAccel ++ put16 p.elRate ++ put16 p.elAccel) m.profile ++
        putOption (fun (a : Angles) => putAngle a.az ++ putAngle a.el) m.targets ++ putOption put32 m.start ++
        putOption put32 m.deadline ++ putOption (fun (c : Clock) => put32 c.toNat) m.arrival) gr.members ++
      putList (fun (e : DishNo × RemovalReason) => put8 e.1.val ++ put8 e.2.number) gr.removals) ∧
  (∀ s : State,
    let f := s.feed
    let c : Int := f.capacity
    let dr : Int := sumDrive s.drive
    putBudget s =
      put16 f.capacity ++ put8 f.meltFloor ++ putInt16 dr ++ putInt16 (sumMelt s.grants) ++ putInt16 (c - dr - sumMelt s.grants) ++
      putInt16 (c - dr - sumFloor s.grants f.meltFloor) ++ putInt16 (c - dr) ++ putFlag f.overload ++ put8 f.overRun ++
      put8 f.quietRun ++ putOption put16 f.lMeas ++ putFlag f.lost ++ put8 f.pass2.val ++
      put32 ((s.meltWeather.lastBoundary.map (· + 1600)).getD 0) ++
      allDishes.flatMap (fun d =>
        put8 s.drive[d].level ++ putOption (fun (k : ResKind) => put8 k.number) s.drive[d].kind ++ put8 s.grants[d].duty ++
        put8 s.grants[d].rate ++ putInt16 (ceilDiv (s.grants[d].rate * s.grants[d].duty) 16))) ∧
  (∀ x : Scan,
    putScan x =
      (List.finRange 16).flatMap (fun k =>
        let c := x.channels[k]
        putOption (fun (r : Raw) => put16 r.toNat) c.lastRaw ++
        putOption (fun (v : Converted) =>
          match v with
          | .number n => putInt16 n
          | .wetness wet => put8 (if wet = true then 0 else 1)) c.value ++
        put8 c.status.number ++ put8 c.bad ++ put16 c.age ++ putFlag c.lost) ++
      put8 x.mode.number ++ put8 x.outRun ++ put8 x.inRun ++
      putOption (fun (p : Spot) => put8 p.chan.val ++ put8 (if p.converting = true then 1 else 0)) x.spot ++
      putOption put32 x.lastEnd) ∧
  (∀ (c : CellNo) (s : State),
    let x := s.cells[c]
    let l := x.limits
    let ds := allDishes.filter (fun d => s.dishes[d].present = true ∧ s.dishes[d].desc.cell = c)
    putCellLookUp s c =
      put16 x.mean ++ putOption put16 x.last ++ put8 x.gustRun ++ putOption put16 x.runHigh ++ putOption put16 x.peak ++
      put8 x.state.number ++ putReasons x.reasons ++ putOption put24 x.holdDown ++ putFlag x.sensorLost ++ put8 x.goodRounds ++
      put16 l.watch ++ put16 l.stowMean ++ put16 l.gust ++ put16 l.release ++ put24 l.holdDown ++
      put8 (ds.countP (fun d => s.dishes[d].motion = .stowing)) ++ put8 (ds.countP (fun d => s.dishes[d].motion = .stowed)) ++
      put8 (ds.countP (fun d => (s.blocked d).isSome)) ++
      putList (fun (d : DishNo) =>
        put8 d.val ++ put8 s.dishes[d].motion.number ++ putOption (fun (r : BlockedReason) => put8 r.number) (s.blocked d)) ds ++
      putList (fun (e : DishNo × StowMove) =>
        put8 e.1.val ++ put32 e.2.time ++ put32 e.2.margin ++ putOption put32 e.2.start ++ putOption put32 e.2.deadline)
        (ds.filterMap (fun d => if s.dishes[d].motion = .stowing then s.stowMoves[d].map (fun m => (d, m)) else none)) ++
      putList (fun (d : DishNo) => put8 d.val) s.stowQueue ++
      put8 (if ∃ k : CellNo, s.cells[k].state = .stow then 0 else 1) ++ put16 s.siteCode.toNat ++
      (match s.detector with
        | .disabled => put8 0 ++ put8 0
        | .sync n => put8 1 ++ put8 1 ++ put8 n
        | .code p => put8 2 ++ put8 1 ++ put8 p) ++
      put32 s.siteTime) ∧
  (∀ (d : DishNo) (s : State),
    let c := s.circuits[d]
    let w := s.meltWeather
    let zone := s.dishes[d].desc.zone
    let pick := fun (first : Bool) => put8 (if first = true then 0 else 1)
    let sensor := fun (p : Precip) => putOption pick p.reading ++ put8 p.run
    putMeltLookUp s d =
      put8 c.mode.number ++ put8 c.forcedDuty ++ put8 c.demand ++ put8 s.grants[d].duty ++ put16 (d.val % 16 * 100) ++
      pick c.window.isSome ++ putOption (fun (v : Window) => put32 v.opened) c.window ++
      putOption (fun (v : Window) => put32 v.closes) c.window ++ putOption (fun (v : Window) => put8 v.kind.number) c.window ++
      put16 c.arrears ++ putFlag c.iced ++ put8 s.grants[d].rate ++
      putInt16 (ceilDiv (s.grants[d].rate * s.grants[d].duty) 16) ++ put8 zone.val ++ putOption putInt16 w.zones[zone].temp ++
      put8 w.zones[zone].status.number ++ putOption (fun (o : Observed) => pick o.heaterOn) s.dishes[d].observed ++
      putFlag (s.bus[d].link = .active) ++ pick w.on ++ sensor w.precip[(0 : SensorNo)] ++ sensor w.precip[(1 : SensorNo)] ++
      putOption put24 w.linger ++ put8 s.feed.meltFloor ++ put16 s.settings.iceLimit ++ put24 s.settings.snowLinger ++
      put16 s.settings.settleMargin ++ put16 s.settings.arrivalWindow ++ putAngle s.settings.watchFloor ++
      put32 ((w.lastBoundary.map (· + 1600)).getD 0) ++ put32 s.siteTime) ∧
  (∀ (v : Vector DriveRes 48) (w : Vector MeltGrant 48) (floor : Nat),
    sumDrive v = ((List.finRange 48).map (fun d => v[d].level)).sum ∧
    sumMelt w = ((List.finRange 48).map (fun d => ceilDiv (w[d].rate * w[d].duty) 16)).sum ∧
    sumFloor w floor = ((List.finRange 48).map (fun d => ceilDiv (w[d].rate * min w[d].duty floor) 16)).sum) ∧
  (∀ s : State,
    let c : Int := s.feed.capacity
    let dr : Int := sumDrive s.drive
    s.pFree = c - dr - sumMelt s.grants ∧ s.pAvail = c - dr - sumFloor s.grants s.feed.meltFloor ∧ s.pStow = c - dr ∧
    s.pFree ≤ s.pAvail ∧ s.pAvail ≤ s.pStow ∧ (PowerLaw s → 0 ≤ s.pFree))

/-! ### Events of the scan, the drive bus and the clocks -/

/-- R85, R95 to R98: an accepted SPOT READING has no answer at its run and converts at once when the converter is idle; a round begins when
it is due; a conversion of channels 0 … 14 gives its raw value to the round; a spot conversion answers its spot, and a dropped one leaves no
trace; a waiting spot is taken up when the conversion under way ends, before the round's next channel; a conversion that begins is new in
its centisecond. An event not due or not under way is ignored (log entry 10, the model's choice); a spot accepted while a dropped conversion
is under way waits for it (log entry 27, the model's choice); good is 0 and failed 1, and wet stands before dry, in the spot's answer (log
entry 5, the model's choice). -/
def Obligations.SpotReadingAndConverterEvents : Prop :=
  (∀ (label n : Byte) (s : State),
     let r : Request := ⟨0x38, label, [n]⟩
     Ready r s →
     exec (.spotReading label [n]) s = .next (
       match asFin 16 n.toNat with
       | none => s.replied r .badValue []
       | some k =>
         if s.scan.spot.isSome = true then s.replied r .spotBusy []
         else
           { s with
             port := { (s.begun r).port with running := none }
             scan := { s.scan with
               spot := some ⟨label, k, s.scan.converter = .idle⟩
               crossed := s.scan.crossed && s.scan.converter != .idle
               converter := if s.scan.converter = .idle then .spot else s.scan.converter } })) ∧
  (∀ (raw : Raw) (s : State),
     (exec .scanRoundStart s = .next (
       if s.siteTime % 25 = 0 ∧ s.scan.round = none ∧ s.scan.lastStart ≠ some s.siteTime then
         { s with scan := { s.scan with
             round := some ⟨s.siteTime, 0, Vector.replicate 16 0⟩
             lastStart := some s.siteTime
             crossed := s.scan.crossed && s.scan.converter != .idle
             converter := if s.scan.converter = .idle then .channel else s.scan.converter } }
       else s)) ∧
     (∀ r, s.scan.converter = .channel → s.scan.round = some r → r.chan.val < 15 →
       exec (.conversionEnd raw) s = .next { s with scan :=
         match s.scan.spot with
         | some p =>
           { s.scan with
             round := some ⟨r.start, r.chan + 1, r.raws.set r.chan raw⟩
             spot := some ⟨p.label, p.chan, true⟩
             crossed := s.scan.crossed && p.converting
             converter := if p.converting = true then .channel else .spot }
         | none => { s.scan with round := some ⟨r.start, r.chan + 1, r.raws.set r.chan raw⟩, crossed := false } }) ∧
     ((s.scan.converter ≠ .channel ∨ s.scan.round = none ∨ (s.scan.round.map (fun r => r.chan)) = some 15) →
       exec (.conversionEnd raw) s = .next s) ∧
     (∀ p, s.scan.converter = .spot → s.scan.spot = some p →
       exec (.spotConversionEnd raw) s = .next
         { s with
           scan := { s.scan with spot := none, crossed := false, converter := if s.scan.round.isSome then .channel else .idle }
           port := { s.port with answers := s.port.answers ++ [⟨0x38, p.label, .ok,
             put8 p.chan.val ++ put16 raw.toNat ++ put8 (if (convert p.chan raw).isSome then 0 else 1) ++
             putOption putConverted (convert p.chan raw) ++ put8 s.scan.mode.number ++ put32 s.siteTime⟩] } }) ∧
     (s.scan.converter = .dropped → exec (.spotConversionEnd raw) s = .next { s with scan :=
         match s.scan.spot with
         | some p =>
           { s.scan with
             spot := some ⟨p.label, p.chan, true⟩
             crossed := s.scan.crossed && p.converting
             converter := if p.converting = true then .dropped else .spot }
         | none => { s.scan with crossed := false, converter := if s.scan.round.isSome then .channel else .idle } }) ∧
     ((s.scan.converter = .idle ∨ s.scan.converter = .channel ∨ (s.scan.converter = .spot ∧ s.scan.spot = none)) →
       exec (.spotConversionEnd raw) s = .next s))

/-- R85, R87 (TABLE 5.3), R88, R90, R92, R93: the end of a round. A waiting spot is taken up (R96). Channel 15 takes in its sample; the
others take theirs in under NORMAL and are held under FAULT; then the lost rule. R89: the reference mode and its runs. R101 to R104, R106:
each wind cell's record. R128, R129: the zone temperatures, the precipitation readings and melt weather. R81 to R83: the overload monitor,
and what setting the flag sheds; that a round is judged by the capacity at its end, also where a SET FEED ran during it, is log entry 31
(the model's choice). -/
def Obligations.RoundEndUpdatesEveryRecord : Prop :=
  (∀ (raw : Raw) (s : State) (r : Round), s.scan.converter = .channel → s.scan.round = some r → r.chan = 15 →
    let inWindow := 2008 ≤ raw.toNat ∧ raw.toNat ≤ 2088
    ∃ t, exec (.scanRoundEnd raw) s = .next t ∧
      t.scan = { s.scan with
        channels := t.scan.channels, mode := t.scan.mode, outRun := t.scan.outRun, inRun := t.scan.inRun
        round := none, lastEnd := some s.siteTime
        spot := s.scan.spot.map (fun p => { p with converting := true })
        converter := match s.scan.spot with | some p => (if p.converting = true then .channel else .spot) | none => .idle
        crossed := s.scan.crossed && (s.scan.spot.map (fun p => p.converting)).getD false } ∧
      t.scan.channels[(15 : ChanNo)] = (s.scan.channels[(15 : ChanNo)].takeIn 15 raw).judgeLost ∧
      (∀ k : ChanNo, k.val < 15 → t.scan.channels[k] =
        (if t.scan.mode = .normal then s.scan.channels[k].takeIn k r.raws[k] else s.scan.channels[k].hold).judgeLost) ∧
      (s.scan.mode = .normal → inWindow → t.scan.mode = .normal ∧ t.scan.outRun = 0 ∧ t.scan.inRun = s.scan.inRun) ∧
      (s.scan.mode = .normal → ¬ inWindow → s.scan.outRun < 2 →
        t.scan.mode = .normal ∧ t.scan.outRun = s.scan.outRun + 1 ∧ t.scan.inRun = s.scan.inRun) ∧
      (s.scan.mode = .normal → ¬ inWindow → 2 ≤ s.scan.outRun →
        t.scan.mode = .fault ∧ t.scan.outRun = 0 ∧ t.scan.inRun = 0 ∧
        t.port.conditions[Cond.sensorFault.index].flag = true) ∧
      (s.scan.mode = .fault → ¬ inWindow → t.scan.mode = .fault ∧ t.scan.inRun = 0 ∧ t.scan.outRun = s.scan.outRun) ∧
      (s.scan.mode = .fault → inWindow → s.scan.inRun < 2 →
        t.scan.mode = .fault ∧ t.scan.inRun = s.scan.inRun + 1 ∧ t.scan.outRun = s.scan.outRun) ∧
      (s.scan.mode = .fault → inWindow → 2 ≤ s.scan.inRun → t.scan.mode = .normal ∧ t.scan.outRun = 0 ∧ t.scan.inRun = 0) ∧
      (∀ c : CellNo,
        let k : ChanNo := ⟨c.val, by omega⟩
        let x := s.cells[c]
        let lim := x.limits
        let good := t.scan.mode = .normal ∧ r.raws[k].toNat < 4090
        let speed := min 700 (r.raws[k].toNat * 700 / 4095)
        let mean := (7 * x.mean + speed + 4) / 8
        let run := if lim.gust ≤ speed then min 3 (x.gustRun + 1) else 0
        let high : Option Nat :=
          if lim.gust ≤ speed then (if x.gustRun = 0 then some speed else some (max (x.runHigh.getD 0) speed)) else none
        let lost := t.scan.channels[k].lost
        let judged := fun (y : Cell) => { y with state := judgedState y.reasons y.mean lim.watch }
        (good → t.cells[c] = judged
          { x with
            last := some speed, mean := mean, gustRun := run, runHigh := high
            reasons := { x.reasons with wind := x.reasons.wind || decide (lim.stowMean ≤ mean), gust := x.reasons.gust || decide (run = 3) }
            peak := if run = 3 then (if x.reasons.gust = true then some (max (x.peak.getD 0) (high.getD 0)) else high) else x.peak
            sensorLost := x.sensorLost && decide (x.goodRounds < 39)
            goodRounds := if x.sensorLost = false then x.goodRounds else if x.goodRounds < 39 then x.goodRounds + 1 else 0
            holdDown :=
              if lim.stowMean ≤ mean ∨ run = 3 then some lim.holdDown
              else if lim.release ≤ mean then x.holdDown.map (fun _ => lim.holdDown)
              else x.holdDown }) ∧
        (¬ good → lost = true → t.cells[c] = judged
          { x with
            reasons := { x.reasons with sensor := true }, holdDown := some lim.holdDown, sensorLost := true, goodRounds := 0 }) ∧
        (¬ good → lost = false → t.cells[c] = judged { x with goodRounds := if x.sensorLost = true then 0 else x.goodRounds })) ∧
      (∀ z : ZoneNo,
        let ch := t.scan.channels[(⟨8 + z.val, by omega⟩ : ChanNo)]
        t.meltWeather.zones[z] = ⟨match ch.value with | some (.number v) => some v | _ => none, ch.status⟩) ∧
      (let w := s.meltWeather
       let wet : ChanNo → Bool := fun k =>
         (t.scan.channels[k].status == .failed) || (t.scan.channels[k].value != some (.wetness false))
       let run0 : Nat := if wet 12 then min 4 (w.precip[(0 : SensorNo)].run + 1) else 0
       let run1 : Nat := if wet 13 then min 4 (w.precip[(1 : SensorNo)].run + 1) else 0
       t.meltWeather.precip[(0 : SensorNo)] = ⟨some (wet 12), run0⟩ ∧ t.meltWeather.precip[(1 : SensorNo)] = ⟨some (wet 13), run1⟩ ∧
       t.meltWeather.on = (w.on || decide (run0 = 4) || decide (run1 = 4)) ∧
       t.meltWeather.linger =
         (if (w.on = true ∧ (wet 12 = true ∨ wet 13 = true)) ∨ run0 = 4 ∨ run1 = 4 then some s.settings.snowLinger
          else w.linger) ∧
       t.meltWeather.lastBoundary = w.lastBoundary) ∧
      (let f := s.feed
       let load := r.raws[(14 : ChanNo)].toNat * 4000 / 4095
       let heavy := f.capacity + f.capacity / 10 < load ∧ 0 < f.capacity
       (t.scan.mode = .fault → t.feed =
         { f with
           lost := f.lost || t.scan.channels[(14 : ChanNo)].lost
           overRun := if f.overload = true then f.overRun else 0
           quietRun := if f.overload = true then 0 else f.quietRun }) ∧
       (t.scan.mode = .normal → f.overload = true → t.feed =
         { f with
           lMeas := some load, lost := false
           overload := decide (f.capacity < load ∨ f.quietRun < 39)
           quietRun := if load ≤ f.capacity ∧ f.quietRun < 39 then f.quietRun + 1 else 0 }) ∧
       (t.scan.mode = .normal → f.overload = false → ¬ (heavy ∧ 3 ≤ f.overRun) → t.feed =
         { f with lMeas := some load, lost := false, overRun := if heavy then f.overRun + 1 else 0 }) ∧
       (t.scan.mode = .normal → f.overload = false → heavy → 3 ≤ f.overRun →
         t.feed = { f with lMeas := some load, lost := false, overload := true, overRun := 0, quietRun := 0 } ∧
         t.port.conditions[Cond.feedOverload.index].flag = true ∧
         ∀ d : DishNo, t.grants[d].duty = 0 ∧ t.circuits[d].window = none ∧
           (s.dishes[d].present = true → s.bus[d].link = .active → t.bus[d].heat = some false)))) ∧
  (∀ (k : ChanNo) (raw : Raw) (c : Channel),
    let n := raw.toNat
    let figure := fun (v : Nat) => some (Converted.number (v : Int))
    convert k raw =
      (if k.val < 8 then (if n < 4090 then figure (min 700 (n * 700 / 4095)) else none)
       else if k.val < 12 then (if 0 < n ∧ n < 4090 then some (.number (((n * 1000 / 4095 : Nat) : Int) - 500)) else none)
       else if k.val < 14 then (if n < 4090 then some (.wetness (2048 ≤ n)) else none)
       else if k.val = 14 then figure (n * 4000 / 4095)
       else if 2008 ≤ n ∧ n ≤ 2088 then figure n else none) ∧
    (∀ v, convert k raw = some v → c.takeIn k raw = ⟨some raw, some v, .good, 0, 0, c.lost⟩) ∧
    (convert k raw = none →
      c.takeIn k raw = ⟨some raw, c.value, .failed, min 255 (c.bad + 1), min 65535 (c.age + 1), c.lost⟩) ∧
    c.hold = ⟨c.lastRaw, c.value, .held, min 255 (c.bad + 1), min 65535 (c.age + 1), c.lost⟩ ∧
    c.judgeLost = { c with lost := if 8 ≤ c.bad then true else if c.bad = 0 then false else c.lost })

/-- R163, R164, R166, R174, R195: a poll round begins when it is due and every visit of the round before has been made and has ended, and
the probe countdowns of its present LOST dishes fall by one. The round visits the present dishes that are ACTIVE, or LOST with their
countdown at 0, each once, in rising drive address, each after the transaction before it has ended. The dish visited is sent STATUS under a
fresh link, else the head of its order list, else its heat order, else STATUS; a LOST dish is sent a probe. A slew SETPOINT carries the time
left to its group start, 0 to 255, and every other order no delay. The order stays in its list. What rests on the log: the dish visited next
is chosen as the round goes on, among those due a visit at that moment, and one behind the round's place waits for the next round (log entry
20, deduced); POLL_ROUND_START at a multiple of 10 cs does nothing while a visit of the round before is to be made or a transaction is under
way (log entry 12, the model's choice); at any other instant each command does nothing (log entry 10, the model's choice). -/
def Obligations.PollRoundsAndVisits : Prop :=
  (∀ (g : SegNo) (s : State),
     let due := s.siteTime % 10 = 0 ∧ s.engines[g].roundStart ≠ some s.siteTime ∧
       ∀ d : DishNo, segOf d = g → s.bus[d].inFlight = none ∧
         ¬ (s.engines[g].roundStart.isSome = true ∧ s.engines[g].nextAddr ≤ addrOf d ∧ s.dishes[d].present = true ∧
            (s.bus[d].link = .active ∨ s.bus[d].countdown = some 0))
     (¬ due → exec (.pollRoundStart g) s = .next s) ∧
     (due → ∃ t, exec (.pollRoundStart g) s = .next t ∧
       t = { s with engines := s.engines.set g ⟨some s.siteTime, 0⟩, bus := t.bus } ∧
       ∀ d : DishNo, t.bus[d] =
         if segOf d = g ∧ s.dishes[d].present = true ∧ s.bus[d].link = .lost then
           { s.bus[d] with countdown := s.bus[d].countdown.map (· - 1) }
         else s.bus[d])) ∧
  (∀ (g : SegNo) (d : DishNo) (s : State),
     let visited := fun (e : DishNo) => s.engines[g].nextAddr ≤ addrOf e ∧ s.dishes[e].present = true ∧
       (s.bus[e].link = .active ∨ s.bus[e].countdown = some 0)
     s.nextVisit g = some d ↔
       s.engines[g].roundStart.isSome = true ∧ segOf d = g ∧ visited d ∧
       ∀ e : DishNo, segOf e = g → s.bus[e].inFlight = none ∧ (visited e → addrOf d ≤ addrOf e)) ∧
  (∀ d : DishNo, (segOf d).val = d.val / 12 ∧ addrOf d = d.val % 12) ∧
  (∀ (now start : Nat) (az el : AxisMove),
     startDelay now (.motion (.setpoint ⟨.slew start, az, el⟩)) = min 255 (start - now) ∧
     startDelay now (.motion (.setpoint ⟨.stow, az, el⟩)) = 0 ∧ startDelay now (.motion .hold) = 0 ∧
     startDelay now (.motion .cut) = 0 ∧ startDelay now (.heat true) = 0 ∧ startDelay now (.heat false) = 0 ∧
     startDelay now .status = 0 ∧ startDelay now .probe = 0) ∧
  (∀ (d : DishNo) (s : State),
     let begins := fun (sent : Sent) =>
       { s with
         bus := s.bus.set d { s.bus[d] with
           inFlight := some ⟨sent, orderChars (addrOf d) sent (startDelay s.siteTime sent), s.siteTime, false, false, false⟩ }
         engines := s.engines.set (segOf d) { s.engines[segOf d] with nextAddr := addrOf d + 1 } }
     (s.nextVisit (segOf d) = some d → s.bus[d].link = .active →
       exec (.visit d) s = .next (begins (
         if s.bus[d].fresh = true then .status
         else
           match s.bus[d].orders, s.bus[d].heat with
           | o :: _, _ => .motion o
           | [], some on => .heat on
           | [], none => .status))) ∧
     (s.nextVisit (segOf d) = some d → s.bus[d].link = .lost → exec (.presenceProbe d) s = .next (begins .probe)) ∧
     ((s.nextVisit (segOf d) ≠ some d ∨ s.bus[d].link = .lost) → exec (.visit d) s = .next s) ∧
     ((s.nextVisit (segOf d) ≠ some d ∨ s.bus[d].link = .active) → exec (.presenceProbe d) s = .next s))

/-- R168, R169, R195: the checks of a transaction's end, in order. TABLE 11.7: a reply is good exactly when its CRC agrees and every field
holds a defined value, and what it then reports. A lone character that never became whole, cut short by the close or garbled, is SHORT (log
entry 6, the model's choice). -/
def Obligations.TransactionChecksInOrder : Prop :=
  (∀ (addr : Nat) (sent : Sent) (chars : List Char9) (cutShort : Bool), addr < 12 →
    let echo : Nat := if sent = .probe then 0x20 + addr else addr
    let full : Nat := if sent = .probe then 2 else 12
    let data : List Byte := ((chars.take full).takeWhile (fun c => c.msb = false)).map (fun c => c.setWidth 8)
    (chars = [] → cutShort = false → judgeTransaction addr sent chars cutShort = .failed .noEcho) ∧
    (chars = [] → cutShort = true → judgeTransaction addr sent chars cutShort = .failed .short) ∧
    (chars ≠ [] → data.head? ≠ some (BitVec.ofNat 8 echo) → judgeTransaction addr sent chars cutShort = .failed .badEcho) ∧
    (data.head? = some (BitVec.ofNat 8 echo) → data.length < full → judgeTransaction addr sent chars cutShort = .failed .short) ∧
    (data.head? = some (BitVec.ofNat 8 echo) → data.length = full →
      judgeTransaction addr sent chars cutShort =
        if sent = .probe then (if data.drop 1 = [0x5A] then .acknowledge else .failed .badCheck)
        else
          match readReply data with
          | some r => .reply r
          | none => .failed .badCheck)) ∧
  (∀ bs : List Byte,
    let c := fun (k : Nat) => (bs.getD k 0).toNat
    let position := fun (k : Nat) => (BitVec.ofNat 24 (65536 * c k + 256 * c (k + 1) + c (k + 2))).toInt
    let good := crc (bs.take 11) = bs.getD 11 0 ∧ c 1 ≤ 1 ∧ c 8 / 16 ≤ 3 ∧ c 8 % 16 ≤ 3 ∧ c 9 ≤ 5 ∧ c 10 ≤ 1
    (readReply bs = none ↔ ¬ good) ∧
    ∀ r, readReply bs = some r →
      (r.refused = true ↔ c 1 = 1) ∧ r.observed.position = ⟨position 2, position 5⟩ ∧ r.observed.azState.number = c 8 / 16 ∧
      r.observed.elState.number = c 8 % 16 ∧ r.observed.fault.number = c 9 ∧ (r.observed.heaterOn = true ↔ c 10 = 1)) ∧
  ([AxisState.still, .moving, .arrived, .fault].map AxisState.number = [0, 1, 2, 3]) ∧
  ([DriveFault.none, .limit, .overcurrent, .brake, .estop, .localControl].map DriveFault.number = [0, 1, 2, 3, 4, 5])

/-- R170 to R174, R176: the end of a transaction that failed, was acknowledged, or belongs to a dish made not present. R16, R56: what the
loss of its link does with a dish. That TRANSACTION_END changes nothing where no transaction of the dish is under way is log entry 10, the
model's choice. -/
def Obligations.FailedAndProbeTransactions : Prop :=
  (∀ (d : DishNo) (chars : List Char9) (cutShort : Bool) (s : State),
    let bus := fun (b : BusRecord) => { s with bus := s.bus.set d b }
    (s.bus[d].inFlight = none → exec (.transactionEnd d chars cutShort) s = .next s) ∧
    ∀ x, s.bus[d].inFlight = some x →
      let out := judgeTransaction (addrOf d) x.sent chars cutShort
      (x.orphan = true → exec (.transactionEnd d chars cutShort) s = .next (bus { s.bus[d] with inFlight := none })) ∧
      (∀ stage, x.orphan = false → out = .failed stage → x.sent = .probe →
        exec (.transactionEnd d chars cutShort) s =
          .next (bus { s.bus[d] with inFlight := none, lastStage := some stage, countdown := some 20 })) ∧
      (∀ stage, x.orphan = false → out = .failed stage → x.sent ≠ .probe → s.bus[d].failures < 4 →
        exec (.transactionEnd d chars cutShort) s =
          .next (bus { s.bus[d] with inFlight := none, lastStage := some stage, failures := s.bus[d].failures + 1 })) ∧
      (∀ stage, x.orphan = false → out = .failed stage → x.sent ≠ .probe → 4 ≤ s.bus[d].failures →
        exec (.transactionEnd d chars cutShort) s =
          .next (serveIfDue (raise .dishLost [d.val] (loseDish d (bus { s.bus[d] with
            inFlight := none, lastStage := some stage, failures := s.bus[d].failures + 1, link := .lost, fresh := false
            orders := [], heat := none, countdown := some 20 }))))) ∧
      (x.orphan = false → out = .acknowledge →
        exec (.transactionEnd d chars cutShort) s =
          .next (bus { s.bus[d] with
            inFlight := none, failures := 0, goodCount := min 65535 (s.bus[d].goodCount + 1), link := .active
            countdown := none, fresh := true }))) ∧
  (∀ (d : DishNo) (s : State),
    loseDish d s =
      if s.dishes[d].present = false ∨ s.dishes[d].motion = .unreachable then s
      else
        match s.memberOf d with
        | some (g, _) => removeMember g d .lost (goUnreachable d) s
        | none => goUnreachable d s) ∧
  (∀ (d : DishNo) (s : State),
    goUnreachable d s = { s with
      dishes := s.dishes.set d
        { s.dishes[d] with
          motion := .unreachable, returnMark := false, group := none, targets := none, cutReason := none, quiet := none
          quietStopped := false }
      drive := s.drive.set d (if s.drive[d].level = 0 then ⟨0, none⟩ else ⟨s.drive[d].level, some .retained⟩)
      stowMoves := s.stowMoves.set d none
      stowQueue := if s.dishes[d].motion = .stowQueued then s.stowQueue.filter (fun e => e ≠ d) else s.stowQueue
      serveDue := if s.dishes[d].motion = .stowQueued ∧ s.stowQueue.head? = some d then true else s.serveDue })

/-- R3, R170, R171: a good reply clears the failures, raises the count of good transactions, clears fresh link and overwrites the observed
status, whatever the dish's state, and whether ACCEPTED or REFUSED. What it removes from the list and the slot: an ACCEPTED one the entry
sent if it still stands at the head; a REFUSED one the whole list if it answers a motion order or cuts the dish (log entry 28, deduced).
R35, R118: a SETPOINT taken fixes the start instant and the deadline of its member or stow move. Then the dish table handles the reply by
its motion state, the tag table judges it, the heat order of a returning dish is posted, and a serve made due is made (log entry 19,
deduced). -/
def Obligations.GoodReplyIsRecorded : Prop :=
  ∀ (d : DishNo) (chars : List Char9) (cutShort : Bool) (s : State) (x : InFlight) (r : Reply),
    s.bus[d].inFlight = some x → x.orphan = false → judgeTransaction (addrOf d) x.sent chars cutShort = .reply r →
    let b := s.bus[d]
    let motion : Bool := match x.sent with | .motion _ => true | _ => false
    let heat : Bool := match x.sent with | .heat _ => true | _ => false
    let cuts := s.dishes[d].motion = .free ∨ s.dishes[d].motion = .member ∨ s.dishes[d].motion = .stopping ∨
      s.dishes[d].motion = .locked ∨ s.dishes[d].motion = .stowQueued ∨ s.dishes[d].motion = .stowing ∨ s.dishes[d].motion = .stowed
    let s1 : State := { s with bus := s.bus.set d { b with
        inFlight := none, failures := 0, goodCount := min 65535 (b.goodCount + 1), fresh := false
        orders :=
          if r.refused = true then (if motion = true ∨ cuts then [] else b.orders)
          else if motion = true ∧ x.headGone = false then b.orders.tail
          else b.orders
        heat := if heat = true ∧ x.heatPosted = false then none else b.heat } }
    let taken : Option Setpoint :=
      match x.sent with
      | .motion (.setpoint sp) => if r.refused = true ∨ x.headGone = true then none else some sp
      | _ => none
    let s2 : State :=
      match taken.map Setpoint.kind, s.memberOf d with
      | some (.slew start), some (g, m) =>
        if s.dishes[d].motion = .member ∧ m.sub = .moving then
          modMember g d (fun e =>
            { e with
              start := some (max start x.began)
              deadline := (s.groups[g].bind Group.tG).map (fun span => max start x.began + span) }) s1
        else s1
      | some .stow, _ =>
        if s.dishes[d].motion = .stowing then
          { s1 with stowMoves := s.stowMoves.set d (s.stowMoves[d].map (fun m =>
              { m with start := some x.began, deadline := some (x.began + m.time + m.margin) })) }
        else s1
      | _, _ => s1
    let s3 := { s2 with dishes := s.dishes.set d { s.dishes[d] with observed := some r.observed } }
    let s4 := judgeTags d r taken.isSome b.fresh s3 (watchedReply d r taken.isSome b.fresh s3)
    ∃ t, exec (.transactionEnd d chars cutShort) s = .next t ∧
      t = serveIfDue (if b.fresh = true then postHeat d s4.circuits[d].window.isSome s4 else s4) ∧
      t.dishes[d].observed = some r.observed ∧ t.bus[d].failures = 0 ∧
      t.bus[d].goodCount = min 65535 (b.goodCount + 1) ∧ t.bus[d].lastStage = b.lastStage ∧
      t.bus[d].fresh = false ∧ t.bus[d].inFlight = none ∧ t.bus[d].link = b.link ∧
      ∀ e : DishNo, e ≠ d → t.dishes[e].observed = s.dishes[e].observed ∧ t.bus[e].failures = s.bus[e].failures

/-- R12 to R14, R18, R48 to R52, R119: what the dish table does with a reply, by the dish's motion state: a refusal that cuts, the rest of a
stopped dish and of a halted member, a fault, an arrival and a false arrival, a return, a quiet time. The model's readings: a REFUSED reply
in CUT drives the quiet time as any other (log entry 14, the model's choice); the return reply is not judged again as a reply to the
STOPPING dish (log entry 15, deduced); a dish that comes to rest under a return mark keeps the mark in RESTRAINED (log entry 16, deduced).
-/
def Obligations.ReplyIsHandledByMotionState : Prop :=
  (∀ (d : DishNo) (r : Reply) (took isReturn : Bool) (s : State),
    let o := r.observed
    let still := o.azState = .still ∧ o.elState = .still
    let moving := o.azState = .moving ∨ o.elState = .moving
    let fault := o.azState = .fault ∨ o.elState = .fault
    let arrived := o.azState = .arrived ∧ o.elState = .arrived
    (s.dishes[d].motion = .unreachable → isReturn = true → ¬ moving →
      watchedReply d r took isReturn s = releaseDrive d (setMotion d .restrained s)) ∧
    (s.dishes[d].motion = .unreachable → isReturn = true → moving →
      watchedReply d r took isReturn s = { s with
        dishes := s.dishes.set d { s.dishes[d] with motion := .stopping, group := none, returnMark := true }
        drive := s.drive.set d (if s.drive[d].level = 0 then ⟨0, none⟩ else ⟨s.drive[d].level, some .stop⟩)
        stowMoves := s.stowMoves.set d none
        bus := (postMotion d .hold s).bus }) ∧
    (s.dishes[d].motion = .unreachable → isReturn = false → watchedReply d r took isReturn s = s) ∧
    (s.dishes[d].motion = .cut → s.dishes[d].quiet = none → ¬ still → watchedReply d r took isReturn s = s) ∧
    (s.dishes[d].motion = .cut → s.dishes[d].quiet = none → still →
      watchedReply d r took isReturn s =
        releaseDrive d (s.modDish d (fun x => { x with quiet := some 2000, quietStopped := false }))) ∧
    (∀ q, s.dishes[d].motion = .cut → s.dishes[d].quiet = some q →
      watchedReply d r took isReturn s = s.modDish d (fun x => { x with
        quiet := some (if fault then (if moving then 2000 else q) else if x.quietStopped = true ∨ moving then 2000 else q)
        quietStopped := fault })) ∧
    (r.refused = false → s.dishes[d].motion = .stopping → ¬ still → fault →
      watchedReply d r took isReturn s = cutDish d .driveFault true s) ∧
    (r.refused = false → s.dishes[d].motion = .stopping → still → s.dishes[d].returnMark = true →
      watchedReply d r took isReturn s = setMotion d .restrained (releaseDrive d s)) ∧
    (r.refused = false → s.dishes[d].motion = .stopping → still → s.dishes[d].returnMark = false → s.dishes[d].group = none →
      watchedReply d r took isReturn s = settle d (releaseDrive d s)) ∧
    (r.refused = false → s.dishes[d].motion = .stopping → ¬ still → ¬ fault → watchedReply d r took isReturn s = s) ∧
    (∀ g m tg, r.refused = false → s.dishes[d].motion = .member → s.memberOf d = some (g, m) → m.sub = .moving →
      m.start.isSome = true → m.deadline.isSome = true → m.targets = some tg → took = false → arrived →
      watchedReply d r took isReturn s =
        if (o.position.az - tg.az).natAbs ≤ s.settings.arrivalWindow ∧ (o.position.el - tg.el).natAbs ≤ s.settings.arrivalWindow then
          memberArrives g d s
        else removeMember g d .falseArrival (goCut d .falseArrival true) s) ∧
    (∀ m st, r.refused = false → s.dishes[d].motion = .stowing → s.stowMoves[d] = some m → m.start = some st → took = false → arrived →
      watchedReply d r took isReturn s =
        if (o.position.el - s.dishes[d].desc.stowEl).natAbs ≤ s.settings.arrivalWindow then stowArrives d s
        else cutDish d .falseArrival true s) ∧
    (s.dishes[d].motion = .restrained → watchedReply d r took isReturn s = s) ∧
    (r.refused = true → s.dishes[d].motion = .free ∨ s.dishes[d].motion = .locked ∨ s.dishes[d].motion = .stowed →
      (watchedReply d r took isReturn s).dishes[d].motion = .cut ∧ (watchedReply d r took isReturn s).bus[d] = s.bus[d])) ∧
  (∀ (d : DishNo) (r : Reply) (took isReturn : Bool) (s : State),
    let o := r.observed
    let still := o.azState = .still ∧ o.elState = .still
    let fault := o.azState = .fault ∨ o.elState = .fault
    let arrived := o.azState = .arrived ∧ o.elState = .arrived
    let out := watchedReply d r took isReturn s
    let cut := cutDish d .driveRefused false s
    let cuts := s.dishes[d].motion = .free ∨ s.dishes[d].motion = .member ∨ s.dishes[d].motion = .stopping ∨
      s.dishes[d].motion = .locked ∨ s.dishes[d].motion = .stowQueued ∨ s.dishes[d].motion = .stowing ∨ s.dishes[d].motion = .stowed
    (r.refused = true → cuts →
      out = if still then releaseDrive d { cut with
          dishes := cut.dishes.set d { cut.dishes[d] with quiet := some 2000, quietStopped := false } }
        else cut) ∧
    (∀ g, r.refused = false → s.dishes[d].motion = .stopping → still → s.dishes[d].returnMark = false → s.dishes[d].group = some g →
      out = judgeGroup g (modMember g d (fun m => { m with sub := .waiting }) (setMotion d .member (releaseDrive d s)))) ∧
    (∀ g m, r.refused = false → s.dishes[d].motion = .member → s.memberOf d = some (g, m) → fault →
      out = cutDish d .driveFault true s) ∧
    (∀ g m, r.refused = false → s.dishes[d].motion = .member → s.memberOf d = some (g, m) → ¬ fault →
      (m.sub ≠ .moving ∨ m.start = none ∨ m.deadline = none ∨ m.targets = none ∨ took = true ∨ ¬ arrived) → out = s) ∧
    (r.refused = false → s.dishes[d].motion = .stowing → fault → out = cutDish d .driveFault true s) ∧
    (r.refused = false → s.dishes[d].motion = .stowing → ¬ fault →
      ((s.stowMoves[d].bind StowMove.start) = none ∨ took = true ∨ ¬ arrived) → out = s) ∧
    (r.refused = false → s.dishes[d].motion = .free ∨ s.dishes[d].motion = .locked ∨ s.dishes[d].motion = .stowQueued ∨
      s.dishes[d].motion = .stowed → out = s)) ∧
  (∀ (d : DishNo) (why : CutReason) (post : Bool) (s : State),
    let reason : RemovalReason :=
      match why with
      | .overrun => .overrun
      | .falseArrival => .falseArrival
      | .driveFault => .driveFault
      | .driveRefused => .driveRefused
    cutDish d why post s = (
      match s.memberOf d with
      | some (g, _) => removeMember g d reason (goCut d why post) s
      | none => goCut d why post s)) ∧
  (∀ (d : DishNo) (s : State),
    releaseDrive d s = { s with
      drive := s.drive.set d ⟨0, none⟩, serveDue := if s.drive[d].level = 0 then s.serveDue else true }) ∧
  (∀ (g : GroupNo) (d : DishNo) (s : State),
    memberArrives g d s = judgeGroup g (releaseDrive d (modMember g d
      (fun m => { m with sub := .arrived, deadline := none, arrival := some s.arrayClock }) s))) ∧
  (∀ (d : DishNo) (s : State),
    let s1 := releaseDrive d { s with
      dishes := s.dishes.set d { s.dishes[d] with motion := .stowed }, stowMoves := s.stowMoves.set d none }
    stowArrives d s = if s.cells[s.dishes[d].desc.cell].state = .stow then s1 else settle d s1) ∧
  (∀ (g : GroupNo) (d : DishNo) (change : Member → Member) (gr : Group) (s : State), s.groups[g] = some gr →
    modMember g d change s = { s with groups := s.groups.set g (some
      { gr with members := gr.members.map (fun m => if m.dish = d then change m else m) }) })

/-- R51, R120: a deadline reached cuts the dish with OVERRUN. R13: what a cut does (that the commanded targets stay on CUT is log entry 17,
deduced). R14, R105, R130: the ends of a quiet time, a hold-down and the snow linger. Before their time nothing happens (R19; log entry 10,
the model's choice). -/
def Obligations.ExpiriesActWhenTheirTimeHasCome : Prop :=
  (∀ (d : DishNo) (s : State),
     (∀ g m t, s.dishes[d].motion = .member → s.memberOf d = some (g, m) → m.sub = .moving → m.deadline = some t → t ≤ s.siteTime →
       exec (.memberDeadlineExpiry d) s = .next (serveIfDue (removeMember g d .overrun (goCut d .overrun true) s))) ∧
     (memberOverdue s d = false → exec (.memberDeadlineExpiry d) s = .next s) ∧
     (∀ m t, s.dishes[d].motion = .stowing → s.memberOf d = none → s.stowMoves[d] = some m → m.deadline = some t → t ≤ s.siteTime →
       exec (.stowDeadlineExpiry d) s = .next (serveIfDue (goCut d .overrun true s))) ∧
     (stowOverdue s d = false → exec (.stowDeadlineExpiry d) s = .next s)) ∧
  (∀ (d : DishNo) (why : CutReason) (post : Bool) (s : State),
     let t := goCut d why post s
     (s.dishes[d].motion = .cut → t = s) ∧
     (s.dishes[d].motion ≠ .cut →
       t = { s with
         dishes := s.dishes.set d
           { s.dishes[d] with motion := .cut, cutReason := some why, group := none, quiet := none, quietStopped := false }
         drive := s.drive.set d (if s.drive[d].level = 0 then ⟨0, none⟩ else ⟨s.drive[d].level, some .stop⟩)
         stowMoves := s.stowMoves.set d none
         stowQueue := if s.dishes[d].motion = .stowQueued then s.stowQueue.filter (fun e => e ≠ d) else s.stowQueue
         serveDue := if s.dishes[d].motion = .stowQueued ∧ s.stowQueue.head? = some d then true else s.serveDue
         port := (raise .dishCut [d.val] s).port
         bus := if post = true then (postMotion d .cut s).bus else s.bus })) ∧
  (∀ s : State,
     (∀ d : DishNo, exec (.quietTimeEnd d) s = .next (
       if s.dishes[d].motion = .cut ∧ s.dishes[d].quiet = some 0 ∧ s.dishes[d].quietStopped = false then
         serveIfDue (
           if s.dishes[d].returnMark = true then s.modDish d (fun x => { x with
             motion := .restrained, cutReason := none, quiet := none, quietStopped := false, returnMark := false })
           else settle d s)
       else s)) ∧
     (∀ c : CellNo, exec (.holdDownExpiry c) s = .next (
       if s.cells[c].holdDown = some 0 then
         serveIfDue (judgeCell c (s.modCell c (fun x =>
           { x with reasons := { x.reasons with wind := false, gust := false, sensor := false }, holdDown := none })))
       else s)) ∧
     exec .lingerExpiry s = .next (
       if s.meltWeather.on = true ∧ s.meltWeather.linger = some 0 then
         { s with meltWeather := { s.meltWeather with on := false, linger := none } }
       else s))

/-- R131, R134, R139, R140: a heater boundary closes every circuit's arrears, judges its ICED flag and computes its demand afresh by TABLE
7.4; each circuit that becomes ICED raises the condition, in dish order; it replaces every grant by the boundary's, then schedules every
window, and nothing else changes. At any other instant, or twice at one, nothing happens (log entry 10, the model's choice). -/
def Obligations.HeaterBoundaryClosesArrearsAndSamplesDemand : Prop :=
  ∀ s : State,
    let limit := s.settings.iceLimit
    let closed := fun (d : DishNo) =>
      let x := s.circuits[d]
      if s.siteTime = 0 then x.arrears
      else if s.grants[d].duty < x.demand then min 1023 (x.arrears + (x.demand - s.grants[d].duty))
      else if 0 < x.demand then x.arrears - 2
      else x.arrears - 4
    ((s.siteTime % 1600 ≠ 0 ∨ s.meltWeather.lastBoundary = some s.siteTime) → exec .heaterBoundary s = .next s) ∧
    (s.siteTime % 1600 = 0 → s.meltWeather.lastBoundary ≠ some s.siteTime → ∃ u t : State,
      exec .heaterBoundary s = .next t ∧ t = serveIfDue (forDishes scheduleWindow u) ∧
      u = { s with
        circuits := u.circuits
        port := (allDishes.foldl (fun v d =>
          if limit ≤ closed d ∧ s.circuits[d].iced = false then raise .iced [d.val] v else v) s).port
        grants := boundaryGrants { s with circuits := u.circuits }
        feed := { s.feed with pass2 := u.feed.pass2 }
        meltWeather := { s.meltWeather with lastBoundary := some s.siteTime }
        serveDue :=
          if ∃ d : DishNo, ceilDiv (u.grants[d].rate * u.grants[d].duty) 16 < ceilDiv (s.grants[d].rate * s.grants[d].duty) 16 then true
          else s.serveDue } ∧
      u.feed.pass2.val = (s.feed.pass2.val + 1) % 48 ∧
      (∀ d : DishNo,
        let x := s.circuits[d]
        let iced := if limit ≤ closed d then true else if 2 * closed d < limit then false else x.iced
        let demand :=
          if s.dishes[d].present = false ∨ (s.coverage d).melt = true ∨ x.mode = .off then 0
          else if x.mode = .forced then x.forcedDuty
          else if s.meltWeather.on = false then 0
          else
            match s.meltWeather.zones[s.dishes[d].desc.zone].temp with
            | none => 16
            | some temp => if 20 < temp then 0 else min 16 (4 + ((20 - temp) / 10).toNat)
        u.circuits[d] = { x with arrears := closed d, iced := iced, demand := demand } ∧
        (iced = true → x.iced = false → d.val ∈ u.port.conditions[Cond.iced.index].items)) ∧
      t.meltWeather.lastBoundary = some s.siteTime ∧ t.feed.pass2 = u.feed.pass2 ∧
      ∀ d : DishNo,
        t.circuits[d].arrears = u.circuits[d].arrears ∧ t.circuits[d].iced = u.circuits[d].iced ∧
        t.circuits[d].demand = u.circuits[d].demand ∧
        t.grants[d].rate = if s.dishes[d].present then s.dishes[d].desc.pMelt else 0)

/-- R135, R167, R138: a window opens at its offset with HEAT ON posted, and closes at its closing instant with HEAT OFF posted; at an
instant of both the close is taken first and HEAT ON is left in the slot; no order goes to a LOST dish. R135: how a boundary schedules a
window. R136: how a lowered duty refits it. At any other instant nothing happens (log entry 10, the model's choice). -/
def Obligations.WindowsOpenAndCloseOnTime : Prop :=
  (∀ (d : DishNo) (s : State),
    (s.ownDue d = true ↔ s.circuits[d].ownOpened = false ∧ 0 < s.grants[d].duty ∧
      ∃ b, s.meltWeather.lastBoundary = some b ∧ s.siteTime = b + d.val % 16 * 100) ∧
    (s.ownDue d = true → s.circuits[d].window = none → exec (.windowOpen d) s = .next { s with
      circuits := s.circuits.set d { s.circuits[d] with
        window := some ⟨s.siteTime, s.siteTime + s.grants[d].duty * 100, .own⟩, ownOpened := true }
      bus := (postHeat d true s).bus }) ∧
    (s.ownDue d = false → exec (.windowOpen d) s = .next s) ∧
    (∀ w, s.circuits[d].window = some w → w.closes ≤ s.siteTime → s.ownDue d = false → exec (.windowClose d) s = .next { s with
      circuits := s.circuits.set d { s.circuits[d] with window := none }
      bus := (postHeat d false s).bus }) ∧
    ((∀ w, s.circuits[d].window = some w → s.siteTime < w.closes) → exec (.windowClose d) s = .next s)) ∧
  (∀ (d : DishNo) (s : State),
    let t := closeWindow d s
    t = { s with bus := (postHeat d (s.ownDue d) s).bus, circuits := s.circuits.set d (
      if s.ownDue d = true then
        { s.circuits[d] with
          window := some ⟨s.siteTime, s.siteTime + s.grants[d].duty * 100, .own⟩, ownOpened := true }
      else { s.circuits[d] with window := none }) } ∧
    (∀ w, s.circuits[d].window = some w → s.ownDue d = true → exec (.windowOpen d) s = .next t) ∧
    (∀ w, s.circuits[d].window = some w → w.closes ≤ s.siteTime → exec (.windowClose d) s = .next t)) ∧
  (∀ (d : DishNo) (s : State),
    let s1 := { s with circuits := s.circuits.set d { s.circuits[d] with ownOpened := false } }
    scheduleWindow d s = (
      match s.circuits[d].window with
      | none => s1
      | some w =>
        let closes := min w.closes (s.siteTime + s.grants[d].duty * 100)
        if closes ≤ s.siteTime then closeWindow d s1
        else { s with circuits := s.circuits.set d { s.circuits[d] with ownOpened := false, window := some ⟨w.opened, closes, .carried⟩ } })) ∧
  (∀ (d : DishNo) (duty : Nat) (s : State),
    let s1 := { s with grants := s.grants.set d { s.grants[d] with duty := duty } }
    lowerDuty d duty s = (
      match s.circuits[d].window with
      | none => s1
      | some w =>
        let closes :=
          if w.kind = .own then w.opened + duty * 100 else min w.closes (s.meltWeather.lastBoundary.getD 0 + duty * 100)
        if closes ≤ s.siteTime then closeWindow d s1
        else { s1 with circuits := s.circuits.set d { s.circuits[d] with window := some ⟨w.opened, closes, w.kind⟩ } }))

/-- R110, R111, TABLE 6.4: the weather line. A framing error restarts the detector; a byte moves it as the table gives; a full match adds
EXTERNAL to every cell in rising number, judges each, and raises EXTERNAL_STOW; every cell is then in STOW. -/
def Obligations.WeatherByteMovesTheDetector : Prop :=
  ∀ (b : Byte) (s : State),
    let hi : Byte := s.siteCode.extractLsb' 8 8
    let lo : Byte := s.siteCode.extractLsb' 0 8
    let goes := fun (x : Detector) => exec (.weatherByte b true) s = .next { s with detector := x }
    (exec (.weatherByte b false) s = .next { s with detector := if s.detector = .disabled then .disabled else .sync 0 }) ∧
    (s.detector = .disabled → goes .disabled) ∧
    (∀ n, s.detector = .sync n → n < 6 → goes (if b = 0xFF then .sync (n + 1) else .sync 0)) ∧
    (s.detector = .sync 6 → goes (if b = hi then .code 1 else if b = 0xFF then .sync 6 else .sync 0)) ∧
    (∀ p, s.detector = .code p → p < 15 →
      goes (if b = (if p % 2 = 0 then hi else lo) then .code (p + 1) else if b = 0xFF then .sync 1 else .sync 0)) ∧
    (s.detector = .code 15 → b ≠ lo → goes (if b = 0xFF then .sync 1 else .sync 0)) ∧
    (s.detector = .code 15 → b = lo → ∃ t, exec (.weatherByte b true) s = .next t ∧
      t = serveIfDue (raise .externalStow [] (allCells.foldl
        (fun u c => judgeCell c { u with
          cells := u.cells.set c { u.cells[c] with reasons := { u.cells[c].reasons with external := true } } })
        { s with detector := .sync 0 })) ∧
      t.detector = .sync 0 ∧
      t.port.conditions[Cond.externalStow.index].flag = true ∧
      ∀ c : CellNo, t.cells[c].reasons = { s.cells[c].reasons with external := true } ∧ t.cells[c].state = .stow)

/-! ### The shared operations -/

/-- R6, R115: settling puts a dish in the first state that applies, and leaves no group, targets, cut reason, quiet time or return mark; a
dish it queues stands at the tail. -/
def Obligations.SettlingTakesTheFirstStateThatApplies : Prop :=
  ∀ (d : DishNo) (s : State),
    let queued := s.stowDemand d = true ∧ (s.coverage d).el = false
    (settle d s).dishes = s.dishes.set d { s.dishes[d] with
      group := none, targets := none, cutReason := none, quiet := none, quietStopped := false, returnMark := false
      motion :=
        if queued then .stowQueued
        else if (s.coverage d).az = true ∨ (s.coverage d).el = true then .locked
        else .free } ∧
    (settle d s).stowQueue = (if queued then s.stowQueue ++ [d] else s.stowQueue) ∧
    settle d s = { s with
      dishes := (settle d s).dishes, stowQueue := (settle d s).stowQueue
      serveDue := if queued then true else s.serveDue }

/-- R74, R116, R118: a serve grants heads in order until the queue is empty or the head's P_drive does not fit P_stow; no dish behind a
refused head leaves the queue, and every dish that left it is STOWING, in a queue without repeats. For each head granted, melt is shed for
what its P_drive exceeds P_free by, and for nothing else; a refused head sheds nothing. -/
def Obligations.ServeStopsAtTheFirstHeadThatDoesNotFit : Prop :=
  (∀ s : State, s.stowQueue.Nodup →
    ∃ served, s.stowQueue = served ++ (serve s).stowQueue ∧
      (∀ d ∈ served, (serve s).dishes[d].motion = .stowing ∧ (serve s).stowMoves[d].isSome = true ∧
        (serve s).drive[d] = DriveRes.withKind .stow ⟨s.dishes[d].desc.pDrive, none⟩) ∧
      (∀ d : DishNo, d ∉ served → (serve s).dishes[d] = s.dishes[d] ∧ (serve s).drive[d] = s.drive[d]) ∧
      (∀ d rest, (serve s).stowQueue = d :: rest → (serve s).pStow < (serve s).dishes[d].desc.pDrive) ∧
      (serve s).serveDue = false) ∧
  (∀ s : State, s.stowQueue = [] → serve s = { s with serveDue := false }) ∧
  (∀ (s : State) (d : DishNo) (rest : List DishNo), s.stowQueue = d :: rest →
    let need := s.dishes[d].desc.pDrive
    let u := shed 0 (need + sumDrive s.drive + sumMelt s.grants - s.feed.capacity) { s with stowQueue := rest, serveDue := false }
    serve s =
      if need + sumDrive s.drive ≤ s.feed.capacity then
        serve (startStow d { u with drive := s.drive.set d (if need = 0 then ⟨0, none⟩ else ⟨need, some .stow⟩) })
      else { s with serveDue := false })

/-- R71: shedding frees what is needed or leaves no circuit to step; it never takes a circuit below the floor and never raises one; it takes
one step of one sixteenth after another and stops as soon as the need is met; and the circuit a step takes has the highest duty among those
it may touch, the highest dish number among equals. -/
def Obligations.SheddingFreesTheNeedOrExhaustsTheCircuits : Prop :=
  (∀ (floor need : Nat) (s : State),
    let t := shed floor need s
    sumMelt t.grants ≤ sumMelt s.grants ∧
    (need ≤ sumMelt s.grants - sumMelt t.grants ∨ ∀ d : DishNo, t.grants[d].duty ≤ floor ∨ t.grants[d].rate = 0) ∧
    (∀ d : DishNo, t.grants[d].rate = s.grants[d].rate ∧ t.grants[d].duty ≤ s.grants[d].duty ∧
      (t.grants[d].duty < s.grants[d].duty → floor ≤ t.grants[d].duty)) ∧
    (need = 0 → t = s) ∧
    (∀ d : DishNo, t.dishes[d] = s.dishes[d] ∧ t.drive[d] = s.drive[d] ∧ t.bus[d].orders = s.bus[d].orders)) ∧
  (∀ (v : Vector MeltGrant 48) (floor : Nat) (d : DishNo), shedPick v floor = some d ↔
    (floor < v[d].duty ∧ 0 < v[d].rate) ∧
    ∀ e : DishNo, floor < v[e].duty → 0 < v[e].rate → v[e].duty < v[d].duty ∨ (v[e].duty = v[d].duty ∧ e ≤ d)) ∧
  (∀ (floor need : Nat) (s : State), shed floor need s =
    if need = 0 then s
    else
      match shedPick s.grants floor with
      | none => s
      | some d =>
        let duty := s.grants[d].duty
        let rate := s.grants[d].rate
        shed floor (need - (ceilDiv (rate * duty) 16 - ceilDiv (rate * (duty - 1)) 16)) (lowerDuty d (duty - 1) s))

/-- R76, R77, R78: the grants of a boundary: no duty above its demand, the whole within the melt budget, every rate the dish's P_melt, and
nothing while the overload-shed flag is set (that under the flag no pass is made, and with a stow queue both with a budget of 0, is log
entry 18, deduced). Pass 1 offers each circuit in dish order its floor share, and grants it where it fits the budget left. Pass 2 goes on
from the pass-2 start, wrapping, and raises each circuit to the largest duty up to its demand whose extra fits the budget left. -/
def Obligations.BoundaryGrantsStayWithinBudgetAndDemand : Prop :=
  (∀ s : State,
    sumMelt (boundaryGrants s) ≤ (if s.stowQueue = [] then s.feed.capacity - sumDrive s.drive else 0) ∧
    ∀ d : DishNo,
      (boundaryGrants s)[d].duty ≤ s.circuits[d].demand ∧
      (boundaryGrants s)[d].rate = (if s.dishes[d].present then s.dishes[d].desc.pMelt else 0) ∧
      (s.feed.overload = true → (boundaryGrants s)[d].duty = 0)) ∧
  (∀ s : State,
    let demands : DishNo → Nat := fun d => s.circuits[d].demand
    let budget := if s.stowQueue = [] then s.feed.capacity - sumDrive s.drive else 0
    let one := allDishes.foldl (pass1Step s.feed.meltFloor demands) (budget, freshGrants s)
    boundaryGrants s =
      if s.feed.overload = true then freshGrants s
      else ((allDishes.map (dishAfter s.feed.pass2)).foldl (pass2Step demands) one).2) ∧
  (∀ (s : State) (d : DishNo), (freshGrants s)[d] = ⟨0, if s.dishes[d].present then s.dishes[d].desc.pMelt else 0⟩) ∧
  (∀ start k : DishNo, (dishAfter start k).val = (start.val + k.val) % 48) ∧
  (∀ (floor : Nat) (demands : DishNo → Nat) (budget : Nat) (v : Vector MeltGrant 48) (d : DishNo),
    let share := min (demands d) floor
    let cost := ceilDiv (v[d].rate * share) 16
    pass1Step floor demands (budget, v) d =
      if 0 < demands d ∧ cost ≤ budget then (budget - cost, v.set d ⟨share, v[d].rate⟩) else (budget, v)) ∧
  (∀ (demands : DishNo → Nat) (budget : Nat) (v : Vector MeltGrant 48) (d : DishNo),
    let extra := fun (duty : Nat) => ceilDiv (v[d].rate * duty) 16 - ceilDiv (v[d].rate * v[d].duty) 16
    let raised := (pass2Step demands (budget, v) d).2[d].duty
    pass2Step demands (budget, v) d = (budget - extra raised, v.set d ⟨raised, v[d].rate⟩) ∧
    v[d].duty ≤ raised ∧ (raised = v[d].duty ∨ (raised ≤ demands d ∧ extra raised ≤ budget)) ∧
    ∀ more : Nat, raised < more → more ≤ demands d → budget < extra more)

/-- R165, R167: how a posting changes a motion order list and the heat slot; a posting for a LOST dish is not taken. R167, R170: a
transaction under way is marked where the posting removes or replaces the motion order it sent, or is a heat posting; nothing else changes.
-/
def Obligations.PostingsFollowTheOrderTable : Prop :=
  (∀ l, postList .cut l = [.cut]) ∧
  (∀ l, orderShape l = true → postList .hold l = if l = [.cut] then [.cut] else [.hold]) ∧
  (∀ sp, postList (.setpoint sp) [] = [.setpoint sp] ∧ postList (.setpoint sp) [.hold] = [.hold, .setpoint sp] ∧
    postList (.setpoint sp) [.cut] = [.cut] ∧
    ∀ old, postList (.setpoint sp) [.setpoint old] = [.setpoint sp] ∧
      postList (.setpoint sp) [.hold, .setpoint old] = [.hold, .setpoint sp]) ∧
  (∀ o l, orderShape l = true → orderShape (postList o l) = true ∧ (postList o l).length ≤ 2) ∧
  (∀ (d : DishNo) (o : Order) (s : State),
    let b := s.bus[d]
    let leaves : Bool :=
      match o, b.orders with
      | .cut, _ :: _ => true
      | .hold, .setpoint _ :: _ => true
      | .setpoint _, [.setpoint _] => true
      | _, _ => false
    (b.link = .lost → postMotion d o s = s) ∧
    (b.link = .active → postMotion d o s = { s with
      bus := s.bus.set d
        { b with
          orders := postList o b.orders
          inFlight := b.inFlight.map (fun x =>
            match x.sent with
            | .motion _ => { x with headGone := x.headGone || leaves }
            | _ => x) } })) ∧
  (∀ (d : DishNo) (on : Bool) (s : State),
    let b := s.bus[d]
    (b.link = .lost → postHeat d on s = s) ∧
    (b.link = .active → postHeat d on s = { s with
      bus := s.bus.set d { b with heat := some on, inFlight := b.inFlight.map (fun x => { x with heatPosted := true }) } }))

/-- R188: raising a condition sets its flag and adds its items, each once, and touches no other condition and nothing else; and an item stays
in its set until READ CONDITIONS, RESET COORDINATION or a power-on reset. R190: ATTN is asserted while an answer waits or a flag is set. -/
def Obligations.ConditionsStayUntilRead : Prop :=
  (∀ (c : Cond) (items : List Nat) (s : State),
    let t := raise c items s
    t.port.conditions[c.index].flag = true ∧
    (∀ n, n ∈ t.port.conditions[c.index].items ↔ n ∈ s.port.conditions[c.index].items ∨ n ∈ items) ∧
    (s.port.conditions[c.index].items.Pairwise (· < ·) → t.port.conditions[c.index].items.Pairwise (· < ·)) ∧
    (∀ k : Fin 9, k ≠ c.index → t.port.conditions[k] = s.port.conditions[k]) ∧
    t = { s with port := { s.port with conditions := t.port.conditions } }) ∧
  (∀ s : State, s.attn = true ↔ s.port.answers ≠ [] ∨ ∃ k : Fin 9, s.port.conditions[k].flag = true) ∧
  (∀ (i : Instr) (s t : State), exec i s = .next t → i ≠ .powerOnReset →
    (∀ label params, i ≠ .readConditions label params ∧ i ≠ .resetCoordination label params) →
    ∀ k : Fin 9,
      (s.port.conditions[k].flag = true → t.port.conditions[k].flag = true) ∧
      ∀ n ∈ s.port.conditions[k].items, n ∈ t.port.conditions[k].items)

/-- R143, R156, R159: no command but PLACE TAG, RELEASE TAG and a power-on reset fills, empties or alters a slot, its state apart; and no
PLACE TAG alters a full slot. R149, R150: how the tag table judges a reply: a return that finds an axis MOVING puts every HELD tag of the
dish back to STOPPING; a reply that shows the linked dish at rest, or ends its move by arrival, makes every STOPPING tag of it HELD and
raises TAG_HELD with their ids; any other reply changes no tag. -/
def Obligations.TagsChangeOnlyByTheirOwnRequests : Prop :=
  (∀ (i : Instr) (s t : State), exec i s = .next t → i ≠ .powerOnReset → (∀ label params, i ≠ .releaseTag label params) →
    ∀ k : TagNo,
      (∀ x, s.tags[k] = some x → ∃ st, t.tags[k] = some { x with state := st }) ∧
      (s.tags[k] = none → (∀ label params, i ≠ .placeTag label params) → t.tags[k] = none)) ∧
  (∀ (d : DishNo) (r : Reply) (took isReturn : Bool) (before s : State),
    let o := r.observed
    let moving := o.azState = .moving ∨ o.elState = .moving
    let near := fun (a b : Int) => (a - b).natAbs ≤ before.settings.arrivalWindow
    let turned := fun (old new : TagState) => { s with
      tags := s.tags.map (fun slot => slot.map (fun t => if t.dish = d ∧ t.state = old then { t with state := new } else t)) }
    let ids := allTags.filter (fun k => (s.tags[k].map (fun t => decide (t.dish = d ∧ t.state = .stopping))).getD false)
    let returns := isReturn = true ∧ before.dishes[d].motion = .unreachable ∧ moving
    let rests := (o.azState = .still ∧ o.elState = .still) ∧ s.dishes[d].motion ≠ .stowing ∧
      ¬ (s.dishes[d].motion = .member ∧ s.movingMember d = true)
    let arrives := r.refused = false ∧ took = false ∧ (o.azState = .arrived ∧ o.elState = .arrived) ∧
      ((before.dishes[d].motion = .member ∧ ∃ g m tg, before.memberOf d = some (g, m) ∧ m.sub = .moving ∧ m.start.isSome = true ∧
          m.deadline.isSome = true ∧ m.targets = some tg ∧ near o.position.az tg.az ∧ near o.position.el tg.el) ∨
       (before.dishes[d].motion = .stowing ∧ ∃ m, before.stowMoves[d] = some m ∧ m.start.isSome = true ∧
          near o.position.el before.dishes[d].desc.stowEl))
    let out := judgeTags d r took isReturn before s
    (returns → out = turned .held .stopping) ∧
    (¬ returns → s.bus[d].link = .active → rests ∨ arrives →
      out = if ids = [] then s else raise .tagHeld (ids.map (fun k => k.val)) (turned .stopping .held)) ∧
    (¬ returns → (s.bus[d].link = .lost ∨ (¬ rests ∧ ¬ arrives)) → out = s))

/-- R60, R61: no command but a power-on reset changes site time, and no command but it and SET CLOCK changes the array clock. -/
def Obligations.OnlyTimeItselfMovesTheClocks : Prop :=
  ∀ (i : Instr) (s t : State), exec i s = .next t → i ≠ .powerOnReset →
    t.siteTime = s.siteTime ∧ ((∀ label params, i ≠ .setClock label params) → t.arrayClock = s.arrayClock)

/-! ### The planner's arithmetic (Chapter 2) -/

/-- R27: the axis time is 0 for no distance, the trapezoid time rounded up where the axis reaches V, and the least t with t²·A ≥ 40 000·D
below it; a stow move's time and both axis times of a plan are this one. -/
def Obligations.AxisTimeIsTheLeastThatSuffices : Prop :=
  (∀ v a, axisTime 0 v a = 0) ∧
  (∀ d v a t, 0 < d → 0 < v → 0 < a → v * v ≤ d * a →
    (axisTime d v a ≤ t ↔ 100 * d * a + 100 * (v * v) ≤ t * (v * a))) ∧
  (∀ d v a t, 0 < d → 0 < v → 0 < a → d * a < v * v → (axisTime d v a ≤ t ↔ 40000 * d ≤ t * t * a)) ∧
  (∀ (s : State) (d : DishNo) (o : Observed), s.dishes[d].observed = some o →
    (stowMoveOf s d).time =
      axisTime (s.dishes[d].desc.stowEl - o.position.el).natAbs s.dishes[d].desc.el.vMax s.dishes[d].desc.el.aMax) ∧
  (∀ (s : State) (target : Angles) (m : Member) (o : Observed), s.dishes[m.dish].observed = some o →
    let p := planMember s target m
    p.azTime = axisTime (p.target.az - o.position.az).natAbs s.dishes[m.dish].desc.az.vMax s.dishes[m.dish].desc.az.aMax ∧
    p.elTime = axisTime (p.target.el - o.position.el).natAbs s.dishes[m.dish].desc.el.vMax s.dishes[m.dish].desc.el.aMax)

/-- R23 to R26: a plan takes the members in list order; a member's target is worked out from the group target plus its offsets, none
counting as 0, its dish's observed position and its dish's own limits, and it is CLAMPED where either axis is. The elevation target is the
sum brought within the limits; the azimuth target is the preferred candidate within the limits, or where there is none the nearer limit,
clamped. -/
def Obligations.TargetsLieWithinTheLimits : Prop :=
  (∀ (s : State) (gr : Group), planGroup s gr = gr.members.map (fun m => planMember s gr.target m)) ∧
  (∀ (s : State) (target : Angles) (m : Member) (o : Observed), s.dishes[m.dish].observed = some o →
    let desc := s.dishes[m.dish].desc
    let off : Angles := match m.offsets with | some a => a | none => ⟨0, 0⟩
    let az := azimuthTarget (target.az + off.az) o.position.az desc.az.lower desc.az.upper
    let el := elevationTarget (target.el + off.el) desc.el.lower desc.el.upper
    let p := planMember s target m
    p.dish = m.dish ∧ p.target = ⟨az.1, el⟩ ∧ (p.clamped = true ↔ az.2 = true ∨ el ≠ target.el + off.el) ∧ p.pDrive = desc.pDrive) ∧
  (∀ sum lower upper : Int, lower < upper →
    lower ≤ elevationTarget sum lower upper ∧ elevationTarget sum lower upper ≤ upper ∧
    (lower ≤ sum → sum ≤ upper → elevationTarget sum lower upper = sum) ∧
    (sum < lower → elevationTarget sum lower upper = lower) ∧ (upper < sum → elevationTarget sum lower upper = upper)) ∧
  (∀ sum observed lower upper : Int, -10000 ≤ sum → sum ≤ 369999 → -270000 ≤ lower → lower < upper → upper ≤ 270000 →
    let t := baseDirection sum
    let kept := fun (c : Int) => (c = t - 360000 ∨ c = t) ∧ lower ≤ c ∧ c ≤ upper
    let z := azimuthTarget sum observed lower upper
    (0 ≤ t ∧ t ≤ 359999 ∧ ∃ k : Int, sum = t + 360000 * k) ∧ lower ≤ z.1 ∧ z.1 ≤ upper ∧
    (z.2 = false ↔ ∃ c, kept c) ∧
    (z.2 = false → kept z.1 ∧ ∀ c, kept c → c ≠ z.1 →
      (z.1 - observed).natAbs < (c - observed).natAbs ∨
      ((z.1 - observed).natAbs = (c - observed).natAbs ∧ (z.1.natAbs < c.natAbs ∨ (z.1.natAbs = c.natAbs ∧ c < z.1)))) ∧
    (z.2 = true →
      let far := fun (limit : Int) =>
        min (limit - (t - 360000)).natAbs (min (limit - t).natAbs (limit - (t + 360000)).natAbs)
      (far lower < far upper → z.1 = lower) ∧ (far upper < far lower → z.1 = upper) ∧
      (far lower = far upper → z.1 = if (upper - observed).natAbs < (lower - observed).natAbs then upper else lower)))

/-- R27 to R29: the full-rate time is the largest axis time of any member; the load of a member is the larger of its power share over the
motion time and its servo floor, each rounded up, and the group's load and least load are their sums. R30: the motion time chosen is the
full-rate time where its load fits; otherwise the least longer time that fits, at most four times as long; and POWER_SHORT exactly when
neither the load nor the least load fits. -/
def Obligations.ChosenTimeIsTheLeastThatFits : Prop :=
  (∀ (p : MemberPlan) (t : Nat), loadTerm p t = max (ceilDiv (p.pDrive * max p.azTime p.elTime) t) (ceilDiv p.pDrive 4)) ∧
  (∀ (ps : List MemberPlan) (t : Nat),
    groupLoad ps t = (ps.map (fun p => loadTerm p t)).sum ∧ leastLoad ps = (ps.map (fun p => ceilDiv p.pDrive 4)).sum ∧
    (∀ p ∈ ps, p.azTime ≤ fullTime ps ∧ p.elTime ≤ fullTime ps) ∧
    (0 < fullTime ps → ∃ p ∈ ps, fullTime ps = max p.azTime p.elTime)) ∧
  (∀ n d k : Nat, 0 < d → (ceilDiv n d ≤ k ↔ n ≤ k * d)) ∧
  ∀ (ps : List MemberPlan) (avail : Int), 0 < fullTime ps →
    let t0 := fullTime ps
    (chooseTime ps avail = none ↔ avail < groupLoad ps t0 ∧ avail < leastLoad ps) ∧
    (∀ t, chooseTime ps avail = some t →
      (groupLoad ps t : Int) ≤ avail ∧ t0 ≤ t ∧ t ≤ 4 * t0 ∧ ∀ u, t0 ≤ u → u < t → avail < groupLoad ps u) ∧
    (∀ t u, t0 ≤ t → t ≤ u → groupLoad ps u ≤ groupLoad ps t) ∧ groupLoad ps (4 * t0) = leastLoad ps

/-- R32, R33: the scaled rate and acceleration of an axis, 0 for one that does not move, from its own limits and axis time; and the SETPOINT
that carries both axes' targets, rates and accelerations. Those of a moving axis lie between 1 and its V and A, and the profile they run
lasts no longer than the move. -/
def Obligations.ScaledProfileFitsTheMove : Prop :=
  (∀ x axis move : Nat,
    scaledRate x axis move = (if axis = 0 then 0 else ceilDiv (x * axis) move) ∧
    scaledAccel x axis move = (if axis = 0 then 0 else ceilDiv (x * axis ^ 2) (move ^ 2))) ∧
  (∀ (s : State) (p : MemberPlan) (move start : Nat),
    let desc := s.dishes[p.dish].desc
    let pr := memberProfile s p move
    pr.azRate = scaledRate desc.az.vMax p.azTime move ∧ pr.azAccel = scaledAccel desc.az.aMax p.azTime move ∧
    pr.elRate = scaledRate desc.el.vMax p.elTime move ∧ pr.elAccel = scaledAccel desc.el.aMax p.elTime move ∧
    slewSetpoint p pr start = ⟨.slew start, ⟨p.target.az, pr.azRate, pr.azAccel⟩, ⟨p.target.el, pr.elRate, pr.elAccel⟩⟩) ∧
  ∀ d v a move : Nat, 0 < d → 0 < v → 0 < a → axisTime d v a ≤ move →
    let v' := scaledRate v (axisTime d v a) move
    let a' := scaledAccel a (axisTime d v a) move
    (1 ≤ v' ∧ v' ≤ v) ∧ (1 ≤ a' ∧ a' ≤ a) ∧ axisTime d v' a' ≤ move

/-! ### Frames -/

/-- R193: the CRC: its step, its examples, and that a sequence followed by its own check leaves the register at 0x00. -/
def Obligations.CrcResidueIsZero : Prop :=
  (∀ r : Byte, crcBit r = if r.msb then (r <<< 1) ^^^ 0x07 else r <<< 1) ∧
  (∀ (bs : List Byte) (b : Byte), crc (bs ++ [b]) =
    crcBit (crcBit (crcBit (crcBit (crcBit (crcBit (crcBit (crcBit (crc bs ^^^ b)))))))) ) ∧
  crc [] = 0x00 ∧ crc [0x01] = 0x07 ∧ crc [0x31, 0x32, 0x33, 0x34, 0x35, 0x36, 0x37, 0x38, 0x39] = 0xF4 ∧
  (∀ bs : List Byte, crc (bs ++ [crc bs]) = 0x00)

/-- R194: every number goes high byte first, a signed one in two's complement. R194, TABLE 11.4: what a run reads from the parameter bytes
of a request is what was put into them, at every value the fields hold; and what is put stands in the order and the widths of the table. -/
def Obligations.ParametersReadBackAsWritten : Prop :=
  (∀ a : DescribeArgs, a.dish < 256 → a.present < 256 →
    (∀ f, a.fields = some f → f.cell < 256 ∧ f.zone < 256 ∧ In24 f.azLower ∧ In24 f.azUpper ∧ In24 f.elLower ∧ In24 f.elUpper ∧
      f.azVMax < 65536 ∧ f.elVMax < 65536 ∧ f.azAMax < 65536 ∧ f.elAMax < 65536 ∧ f.pDrive < 256 ∧ f.pMelt < 256 ∧
      ∀ e, f.stowEl = some e → In24 e) →
    readDescribe (describeParams a) = a) ∧
  (∀ a : TargetArgs, a.group < 256 → In24 a.az → In24 a.el → readTarget (targetParams a) = a) ∧
  (∀ a : AddArgs, a.group < 256 → a.dish < 256 → (∀ o, a.offsets = some o → In24 o.az ∧ In24 o.el) → readAdd (addParams a) = a) ∧
  (∀ a : WindArgs, a.cell < 256 → a.limits.watch < 65536 → a.limits.stowMean < 65536 → a.limits.gust < 65536 →
    a.limits.release < 65536 → a.limits.holdDown < 16777216 → readWind (windParams a) = a) ∧
  (∀ a : ModeArgs, a.dish < 256 → a.mode < 256 → a.duty < 256 → readMode (modeParams a) = a) ∧
  (∀ a : LimitsArgs, a.meltFloor < 256 → a.settings.iceLimit < 65536 → a.settings.snowLinger < 16777216 →
    a.settings.settleMargin < 65536 → a.settings.arrivalWindow < 65536 → In24 a.settings.watchFloor →
    readLimits (limitsParams a) = a) ∧
  (∀ (n : Nat) (i : Int),
    let byte := fun (k : Nat) => (BitVec.ofNat 8 (n / 256 ^ k) : Byte)
    put8 n = [byte 0] ∧ put16 n = [byte 1, byte 0] ∧ put24 n = [byte 2, byte 1, byte 0] ∧ put32 n = [byte 3, byte 2, byte 1, byte 0] ∧
    putAngle i = put24 (i % 16777216).toNat ∧ putInt16 i = put16 (i % 65536).toNat) ∧
  (∀ a : PlaceArgs, a.holder < 65536 → a.dish < 256 → a.scope < 256 → readPlace (placeParams a) = a) ∧
  (∀ a : ReleaseArgs, a.tag < 256 → a.holder < 65536 → readRelease (releaseParams a) = a) ∧
  (∀ (dish present : Nat) (f : DescribeFields),
    describeParams ⟨dish, present, none⟩ = put8 dish ++ put8 present ∧
    describeParams ⟨dish, present, some f⟩ =
      put8 dish ++ put8 present ++ put8 f.cell ++ put8 f.zone ++ putAngle f.azLower ++ putAngle f.azUpper ++ putAngle f.elLower ++
      putAngle f.elUpper ++ put16 f.azVMax ++ put16 f.elVMax ++ put16 f.azAMax ++ put16 f.elAMax ++ put8 f.pDrive ++ put8 f.pMelt ++
      (match f.stowEl with | none => [] | some e => putAngle e)) ∧
  (∀ a : TargetArgs, targetParams a = put8 a.group ++ putAngle a.az ++ putAngle a.el) ∧
  (∀ a : AddArgs, addParams a =
    put8 a.group ++ put8 a.dish ++ (match a.offsets with | none => [] | some o => putAngle o.az ++ putAngle o.el)) ∧
  (∀ a : WindArgs, windParams a =
    put8 a.cell ++ put16 a.limits.watch ++ put16 a.limits.stowMean ++ put16 a.limits.gust ++ put16 a.limits.release ++
    put24 a.limits.holdDown) ∧
  (∀ a : ModeArgs, modeParams a = put8 a.dish ++ put8 a.mode ++ put8 a.duty) ∧
  (∀ a : LimitsArgs, limitsParams a =
    put8 a.meltFloor ++ put16 a.settings.iceLimit ++ put24 a.settings.snowLinger ++ put16 a.settings.settleMargin ++
    put16 a.settings.arrivalWindow ++ putAngle a.settings.watchFloor) ∧
  (∀ a : PlaceArgs, placeParams a = put16 a.holder ++ put8 a.dish ++ put8 a.scope) ∧
  (∀ a : ReleaseArgs, releaseParams a = put8 a.tag ++ put16 a.holder)

/-- R183, R169, R195: a frame built by TABLE 11.1 is taken as its request whatever bytes follow it; a reply built by TABLE 11.7 is a good
reply that reads back as it was. TABLE 11.6: the data characters of every order, after the address character and before a CRC that checks;
TABLE 11.8: a probe is one address character. -/
def Obligations.FramesReadBackAsBuilt : Prop :=
  (∀ (r : Request) (more : List Byte) (s : State), r.params.length ≤ 60 →
    judgeFrame (frameBytes r ++ more) s = takeFrame r s) ∧
  (∀ (addr : Nat) (sent : Sent) (r : Reply) (more : List Char9), addr < 12 → sent ≠ .probe →
    In24 r.observed.position.az → In24 r.observed.position.el →
    judgeTransaction addr sent ((replyBytes addr r).map dataChar ++ more) false = .reply r) ∧
  (∀ (kind : MoveKind) (az el : AxisMove) (delay : Nat),
    orderData (.motion (.setpoint ⟨kind, az, el⟩)) delay =
      [0x01] ++ putAngle az.target ++ put16 az.rate ++ put16 az.accel ++ putAngle el.target ++ put16 el.rate ++ put16 el.accel ++
      put8 delay ∧
    orderData (.motion .hold) delay = [0x02] ∧ orderData (.motion .cut) delay = [0x03] ∧ orderData (.heat true) delay = [0x04] ∧
    orderData (.heat false) delay = [0x05] ∧ orderData .status delay = [0x06]) ∧
  (∀ (addr : Nat) (sent : Sent) (delay : Nat),
    let data := orderData sent delay
    orderChars addr .probe delay = [addressChar (0x20 + addr)] ∧
    (sent ≠ .probe →
      orderChars addr sent delay = addressChar addr :: (data ++ [crc data]).map dataChar ∧
      (orderChars addr sent delay).head? = some (addressChar addr) ∧
      crc (((orderChars addr sent delay).drop 1).map (fun c => c.setWidth 8)) = 0)) ∧
  (∀ b : Byte,
    (addressChar b.toNat).msb = true ∧ (addressChar b.toNat).setWidth 8 = b ∧ (dataChar b).msb = false ∧ (dataChar b).setWidth 8 = b)

/-! ### The laws that every step keeps -/

/-- R1, R37, R64, R86, R100, R115, R126, R143, R162, R179: the laws hold after a power-on reset. The scan's and the serve's part of TidyLaw
(ScanLaw, ServeLaw) rest beside R86 on log entry 4, the model's choice: the converter idle without a round, crossed clear, serveDue false.
-/
def Obligations.LawsHoldAtReset : Prop :=
  PortLaw State.reset ∧ PowerLaw State.reset ∧ MeltLaw State.reset ∧ OrderLaw State.reset ∧ CellLaw State.reset ∧
  SiteLaw State.reset ∧ TidyLaw State.reset

/-- R184: o + w never exceeds 8, the running request counted among the outstanding; TABLE 10.1: the request queue never exceeds 4. -/
def Obligations.PortLawIsKept : Prop := ∀ s t : State, PortLaw s → step s = .next t → PortLaw t

/-- R65: ΣD + ΣM never exceeds C. -/
def Obligations.PowerLawIsKept : Prop := ∀ s t : State, PowerLaw s → step s = .next t → PowerLaw t

/-- R69, R132: no granted duty exceeds its demand; none is granted under MELT coverage or overload. -/
def Obligations.MeltLawIsKept : Prop := ∀ s t : State, MeltLaw s → step s = .next t → MeltLaw t

/-- R165: the five shapes of an order list, and the empty list and slot of a LOST dish. R104, R106: a cell's state follows its reasons and
mean, and its hold-down is present exactly while WIND, GUST or SENSOR is. Each is kept by every step. -/
def Obligations.OrderAndCellLawsAreKept : Prop :=
  (∀ s t : State, OrderLaw s → step s = .next t → OrderLaw t) ∧
  (∀ s t : State, CellLaw s → step s = .next t → CellLaw t)

/-- R12, R38, R54, R115, R146: the dish, group and tag tables and the stow queue agree: among it that no covered dish is in a member list,
and that a return mark stands only where its rules leave it, never on a dish in a member list. -/
def Obligations.SiteLawIsKept : Prop := ∀ s t : State, SiteLaw s → step s = .next t → SiteLaw t

/-- TABLE 1.1, TABLE 4.1, R67, R163, R189: five small laws. R85, R96: a sixth, the scan's: a round is open only in the centisecond in which it
began, and only a spot's conversion may go on into the next; R168: so may a transaction, and into no second one (that they may is log entry 9,
the model's choice). -/
def Obligations.TidyLawIsKept : Prop := ∀ s t : State, TidyLaw s → step s = .next t → TidyLaw t
end

