-- ==== Sys2Proof/Laws/State.lean ====
section
/-! SUPPORT. One lemma for every field under every update of one piece of state (Machine/Ops.lean), each true by rfl, so that no proof
unfolds a record update; then what an entry of a table reads after an update of the same or of another entry. -/

namespace Sys2Proof
namespace Machine

variable (s : State)


/-! ### State.modDish -/

@[simp] theorem State.modDish_siteTime (d : DishNo) (f : DishRecord → DishRecord) : (s.modDish d f).siteTime = s.siteTime := rfl
@[simp] theorem State.modDish_arrayClock (d : DishNo) (f : DishRecord → DishRecord) : (s.modDish d f).arrayClock = s.arrayClock := rfl
@[simp] theorem State.modDish_dishes (d : DishNo) (f : DishRecord → DishRecord) : (s.modDish d f).dishes = s.dishes.set d (f s.dishes[d]) := rfl
@[simp] theorem State.modDish_groups (d : DishNo) (f : DishRecord → DishRecord) : (s.modDish d f).groups = s.groups := rfl
@[simp] theorem State.modDish_drive (d : DishNo) (f : DishRecord → DishRecord) : (s.modDish d f).drive = s.drive := rfl
@[simp] theorem State.modDish_grants (d : DishNo) (f : DishRecord → DishRecord) : (s.modDish d f).grants = s.grants := rfl
@[simp] theorem State.modDish_feed (d : DishNo) (f : DishRecord → DishRecord) : (s.modDish d f).feed = s.feed := rfl
@[simp] theorem State.modDish_scan (d : DishNo) (f : DishRecord → DishRecord) : (s.modDish d f).scan = s.scan := rfl
@[simp] theorem State.modDish_cells (d : DishNo) (f : DishRecord → DishRecord) : (s.modDish d f).cells = s.cells := rfl
@[simp] theorem State.modDish_stowQueue (d : DishNo) (f : DishRecord → DishRecord) : (s.modDish d f).stowQueue = s.stowQueue := rfl
@[simp] theorem State.modDish_stowMoves (d : DishNo) (f : DishRecord → DishRecord) : (s.modDish d f).stowMoves = s.stowMoves := rfl
@[simp] theorem State.modDish_siteCode (d : DishNo) (f : DishRecord → DishRecord) : (s.modDish d f).siteCode = s.siteCode := rfl
@[simp] theorem State.modDish_detector (d : DishNo) (f : DishRecord → DishRecord) : (s.modDish d f).detector = s.detector := rfl
@[simp] theorem State.modDish_circuits (d : DishNo) (f : DishRecord → DishRecord) : (s.modDish d f).circuits = s.circuits := rfl
@[simp] theorem State.modDish_meltWeather (d : DishNo) (f : DishRecord → DishRecord) : (s.modDish d f).meltWeather = s.meltWeather := rfl
@[simp] theorem State.modDish_settings (d : DishNo) (f : DishRecord → DishRecord) : (s.modDish d f).settings = s.settings := rfl
@[simp] theorem State.modDish_tags (d : DishNo) (f : DishRecord → DishRecord) : (s.modDish d f).tags = s.tags := rfl
@[simp] theorem State.modDish_bus (d : DishNo) (f : DishRecord → DishRecord) : (s.modDish d f).bus = s.bus := rfl
@[simp] theorem State.modDish_engines (d : DishNo) (f : DishRecord → DishRecord) : (s.modDish d f).engines = s.engines := rfl
@[simp] theorem State.modDish_port (d : DishNo) (f : DishRecord → DishRecord) : (s.modDish d f).port = s.port := rfl
@[simp] theorem State.modDish_serveDue (d : DishNo) (f : DishRecord → DishRecord) : (s.modDish d f).serveDue = s.serveDue := rfl
@[simp] theorem State.modDish_freeCount (d : DishNo) (f : DishRecord → DishRecord) : (s.modDish d f).freeCount = s.freeCount := rfl
@[simp] theorem State.modDish_pending (d : DishNo) (f : DishRecord → DishRecord) : (s.modDish d f).pending = s.pending := rfl

/-! ### State.modGroup -/

@[simp] theorem State.modGroup_siteTime (g : GroupNo) (f : Group → Group) : (s.modGroup g f).siteTime = s.siteTime := rfl
@[simp] theorem State.modGroup_arrayClock (g : GroupNo) (f : Group → Group) : (s.modGroup g f).arrayClock = s.arrayClock := rfl
@[simp] theorem State.modGroup_dishes (g : GroupNo) (f : Group → Group) : (s.modGroup g f).dishes = s.dishes := rfl
@[simp] theorem State.modGroup_groups (g : GroupNo) (f : Group → Group) : (s.modGroup g f).groups = s.groups.set g (s.groups[g].map f) := rfl
@[simp] theorem State.modGroup_drive (g : GroupNo) (f : Group → Group) : (s.modGroup g f).drive = s.drive := rfl
@[simp] theorem State.modGroup_grants (g : GroupNo) (f : Group → Group) : (s.modGroup g f).grants = s.grants := rfl
@[simp] theorem State.modGroup_feed (g : GroupNo) (f : Group → Group) : (s.modGroup g f).feed = s.feed := rfl
@[simp] theorem State.modGroup_scan (g : GroupNo) (f : Group → Group) : (s.modGroup g f).scan = s.scan := rfl
@[simp] theorem State.modGroup_cells (g : GroupNo) (f : Group → Group) : (s.modGroup g f).cells = s.cells := rfl
@[simp] theorem State.modGroup_stowQueue (g : GroupNo) (f : Group → Group) : (s.modGroup g f).stowQueue = s.stowQueue := rfl
@[simp] theorem State.modGroup_stowMoves (g : GroupNo) (f : Group → Group) : (s.modGroup g f).stowMoves = s.stowMoves := rfl
@[simp] theorem State.modGroup_siteCode (g : GroupNo) (f : Group → Group) : (s.modGroup g f).siteCode = s.siteCode := rfl
@[simp] theorem State.modGroup_detector (g : GroupNo) (f : Group → Group) : (s.modGroup g f).detector = s.detector := rfl
@[simp] theorem State.modGroup_circuits (g : GroupNo) (f : Group → Group) : (s.modGroup g f).circuits = s.circuits := rfl
@[simp] theorem State.modGroup_meltWeather (g : GroupNo) (f : Group → Group) : (s.modGroup g f).meltWeather = s.meltWeather := rfl
@[simp] theorem State.modGroup_settings (g : GroupNo) (f : Group → Group) : (s.modGroup g f).settings = s.settings := rfl
@[simp] theorem State.modGroup_tags (g : GroupNo) (f : Group → Group) : (s.modGroup g f).tags = s.tags := rfl
@[simp] theorem State.modGroup_bus (g : GroupNo) (f : Group → Group) : (s.modGroup g f).bus = s.bus := rfl
@[simp] theorem State.modGroup_engines (g : GroupNo) (f : Group → Group) : (s.modGroup g f).engines = s.engines := rfl
@[simp] theorem State.modGroup_port (g : GroupNo) (f : Group → Group) : (s.modGroup g f).port = s.port := rfl
@[simp] theorem State.modGroup_serveDue (g : GroupNo) (f : Group → Group) : (s.modGroup g f).serveDue = s.serveDue := rfl
@[simp] theorem State.modGroup_freeCount (g : GroupNo) (f : Group → Group) : (s.modGroup g f).freeCount = s.freeCount := rfl
@[simp] theorem State.modGroup_pending (g : GroupNo) (f : Group → Group) : (s.modGroup g f).pending = s.pending := rfl

/-! ### State.setGroup -/

@[simp] theorem State.setGroup_siteTime (g : GroupNo) (o : Option Group) : (s.setGroup g o).siteTime = s.siteTime := rfl
@[simp] theorem State.setGroup_arrayClock (g : GroupNo) (o : Option Group) : (s.setGroup g o).arrayClock = s.arrayClock := rfl
@[simp] theorem State.setGroup_dishes (g : GroupNo) (o : Option Group) : (s.setGroup g o).dishes = s.dishes := rfl
@[simp] theorem State.setGroup_groups (g : GroupNo) (o : Option Group) : (s.setGroup g o).groups = s.groups.set g o := rfl
@[simp] theorem State.setGroup_drive (g : GroupNo) (o : Option Group) : (s.setGroup g o).drive = s.drive := rfl
@[simp] theorem State.setGroup_grants (g : GroupNo) (o : Option Group) : (s.setGroup g o).grants = s.grants := rfl
@[simp] theorem State.setGroup_feed (g : GroupNo) (o : Option Group) : (s.setGroup g o).feed = s.feed := rfl
@[simp] theorem State.setGroup_scan (g : GroupNo) (o : Option Group) : (s.setGroup g o).scan = s.scan := rfl
@[simp] theorem State.setGroup_cells (g : GroupNo) (o : Option Group) : (s.setGroup g o).cells = s.cells := rfl
@[simp] theorem State.setGroup_stowQueue (g : GroupNo) (o : Option Group) : (s.setGroup g o).stowQueue = s.stowQueue := rfl
@[simp] theorem State.setGroup_stowMoves (g : GroupNo) (o : Option Group) : (s.setGroup g o).stowMoves = s.stowMoves := rfl
@[simp] theorem State.setGroup_siteCode (g : GroupNo) (o : Option Group) : (s.setGroup g o).siteCode = s.siteCode := rfl
@[simp] theorem State.setGroup_detector (g : GroupNo) (o : Option Group) : (s.setGroup g o).detector = s.detector := rfl
@[simp] theorem State.setGroup_circuits (g : GroupNo) (o : Option Group) : (s.setGroup g o).circuits = s.circuits := rfl
@[simp] theorem State.setGroup_meltWeather (g : GroupNo) (o : Option Group) : (s.setGroup g o).meltWeather = s.meltWeather := rfl
@[simp] theorem State.setGroup_settings (g : GroupNo) (o : Option Group) : (s.setGroup g o).settings = s.settings := rfl
@[simp] theorem State.setGroup_tags (g : GroupNo) (o : Option Group) : (s.setGroup g o).tags = s.tags := rfl
@[simp] theorem State.setGroup_bus (g : GroupNo) (o : Option Group) : (s.setGroup g o).bus = s.bus := rfl
@[simp] theorem State.setGroup_engines (g : GroupNo) (o : Option Group) : (s.setGroup g o).engines = s.engines := rfl
@[simp] theorem State.setGroup_port (g : GroupNo) (o : Option Group) : (s.setGroup g o).port = s.port := rfl
@[simp] theorem State.setGroup_serveDue (g : GroupNo) (o : Option Group) : (s.setGroup g o).serveDue = s.serveDue := rfl
@[simp] theorem State.setGroup_freeCount (g : GroupNo) (o : Option Group) : (s.setGroup g o).freeCount = s.freeCount := rfl
@[simp] theorem State.setGroup_pending (g : GroupNo) (o : Option Group) : (s.setGroup g o).pending = s.pending := rfl

/-! ### State.modDrive -/

@[simp] theorem State.modDrive_siteTime (d : DishNo) (f : DriveRes → DriveRes) : (s.modDrive d f).siteTime = s.siteTime := rfl
@[simp] theorem State.modDrive_arrayClock (d : DishNo) (f : DriveRes → DriveRes) : (s.modDrive d f).arrayClock = s.arrayClock := rfl
@[simp] theorem State.modDrive_dishes (d : DishNo) (f : DriveRes → DriveRes) : (s.modDrive d f).dishes = s.dishes := rfl
@[simp] theorem State.modDrive_groups (d : DishNo) (f : DriveRes → DriveRes) : (s.modDrive d f).groups = s.groups := rfl
@[simp] theorem State.modDrive_drive (d : DishNo) (f : DriveRes → DriveRes) : (s.modDrive d f).drive = s.drive.set d (f s.drive[d]) := rfl
@[simp] theorem State.modDrive_grants (d : DishNo) (f : DriveRes → DriveRes) : (s.modDrive d f).grants = s.grants := rfl
@[simp] theorem State.modDrive_feed (d : DishNo) (f : DriveRes → DriveRes) : (s.modDrive d f).feed = s.feed := rfl
@[simp] theorem State.modDrive_scan (d : DishNo) (f : DriveRes → DriveRes) : (s.modDrive d f).scan = s.scan := rfl
@[simp] theorem State.modDrive_cells (d : DishNo) (f : DriveRes → DriveRes) : (s.modDrive d f).cells = s.cells := rfl
@[simp] theorem State.modDrive_stowQueue (d : DishNo) (f : DriveRes → DriveRes) : (s.modDrive d f).stowQueue = s.stowQueue := rfl
@[simp] theorem State.modDrive_stowMoves (d : DishNo) (f : DriveRes → DriveRes) : (s.modDrive d f).stowMoves = s.stowMoves := rfl
@[simp] theorem State.modDrive_siteCode (d : DishNo) (f : DriveRes → DriveRes) : (s.modDrive d f).siteCode = s.siteCode := rfl
@[simp] theorem State.modDrive_detector (d : DishNo) (f : DriveRes → DriveRes) : (s.modDrive d f).detector = s.detector := rfl
@[simp] theorem State.modDrive_circuits (d : DishNo) (f : DriveRes → DriveRes) : (s.modDrive d f).circuits = s.circuits := rfl
@[simp] theorem State.modDrive_meltWeather (d : DishNo) (f : DriveRes → DriveRes) : (s.modDrive d f).meltWeather = s.meltWeather := rfl
@[simp] theorem State.modDrive_settings (d : DishNo) (f : DriveRes → DriveRes) : (s.modDrive d f).settings = s.settings := rfl
@[simp] theorem State.modDrive_tags (d : DishNo) (f : DriveRes → DriveRes) : (s.modDrive d f).tags = s.tags := rfl
@[simp] theorem State.modDrive_bus (d : DishNo) (f : DriveRes → DriveRes) : (s.modDrive d f).bus = s.bus := rfl
@[simp] theorem State.modDrive_engines (d : DishNo) (f : DriveRes → DriveRes) : (s.modDrive d f).engines = s.engines := rfl
@[simp] theorem State.modDrive_port (d : DishNo) (f : DriveRes → DriveRes) : (s.modDrive d f).port = s.port := rfl
@[simp] theorem State.modDrive_serveDue (d : DishNo) (f : DriveRes → DriveRes) : (s.modDrive d f).serveDue = s.serveDue := rfl
@[simp] theorem State.modDrive_freeCount (d : DishNo) (f : DriveRes → DriveRes) : (s.modDrive d f).freeCount = s.freeCount := rfl
@[simp] theorem State.modDrive_pending (d : DishNo) (f : DriveRes → DriveRes) : (s.modDrive d f).pending = s.pending := rfl

/-! ### State.modGrant -/

@[simp] theorem State.modGrant_siteTime (d : DishNo) (f : MeltGrant → MeltGrant) : (s.modGrant d f).siteTime = s.siteTime := rfl
@[simp] theorem State.modGrant_arrayClock (d : DishNo) (f : MeltGrant → MeltGrant) : (s.modGrant d f).arrayClock = s.arrayClock := rfl
@[simp] theorem State.modGrant_dishes (d : DishNo) (f : MeltGrant → MeltGrant) : (s.modGrant d f).dishes = s.dishes := rfl
@[simp] theorem State.modGrant_groups (d : DishNo) (f : MeltGrant → MeltGrant) : (s.modGrant d f).groups = s.groups := rfl
@[simp] theorem State.modGrant_drive (d : DishNo) (f : MeltGrant → MeltGrant) : (s.modGrant d f).drive = s.drive := rfl
@[simp] theorem State.modGrant_grants (d : DishNo) (f : MeltGrant → MeltGrant) : (s.modGrant d f).grants = s.grants.set d (f s.grants[d]) := rfl
@[simp] theorem State.modGrant_feed (d : DishNo) (f : MeltGrant → MeltGrant) : (s.modGrant d f).feed = s.feed := rfl
@[simp] theorem State.modGrant_scan (d : DishNo) (f : MeltGrant → MeltGrant) : (s.modGrant d f).scan = s.scan := rfl
@[simp] theorem State.modGrant_cells (d : DishNo) (f : MeltGrant → MeltGrant) : (s.modGrant d f).cells = s.cells := rfl
@[simp] theorem State.modGrant_stowQueue (d : DishNo) (f : MeltGrant → MeltGrant) : (s.modGrant d f).stowQueue = s.stowQueue := rfl
@[simp] theorem State.modGrant_stowMoves (d : DishNo) (f : MeltGrant → MeltGrant) : (s.modGrant d f).stowMoves = s.stowMoves := rfl
@[simp] theorem State.modGrant_siteCode (d : DishNo) (f : MeltGrant → MeltGrant) : (s.modGrant d f).siteCode = s.siteCode := rfl
@[simp] theorem State.modGrant_detector (d : DishNo) (f : MeltGrant → MeltGrant) : (s.modGrant d f).detector = s.detector := rfl
@[simp] theorem State.modGrant_circuits (d : DishNo) (f : MeltGrant → MeltGrant) : (s.modGrant d f).circuits = s.circuits := rfl
@[simp] theorem State.modGrant_meltWeather (d : DishNo) (f : MeltGrant → MeltGrant) : (s.modGrant d f).meltWeather = s.meltWeather := rfl
@[simp] theorem State.modGrant_settings (d : DishNo) (f : MeltGrant → MeltGrant) : (s.modGrant d f).settings = s.settings := rfl
@[simp] theorem State.modGrant_tags (d : DishNo) (f : MeltGrant → MeltGrant) : (s.modGrant d f).tags = s.tags := rfl
@[simp] theorem State.modGrant_bus (d : DishNo) (f : MeltGrant → MeltGrant) : (s.modGrant d f).bus = s.bus := rfl
@[simp] theorem State.modGrant_engines (d : DishNo) (f : MeltGrant → MeltGrant) : (s.modGrant d f).engines = s.engines := rfl
@[simp] theorem State.modGrant_port (d : DishNo) (f : MeltGrant → MeltGrant) : (s.modGrant d f).port = s.port := rfl
@[simp] theorem State.modGrant_serveDue (d : DishNo) (f : MeltGrant → MeltGrant) : (s.modGrant d f).serveDue = s.serveDue := rfl
@[simp] theorem State.modGrant_freeCount (d : DishNo) (f : MeltGrant → MeltGrant) : (s.modGrant d f).freeCount = s.freeCount := rfl
@[simp] theorem State.modGrant_pending (d : DishNo) (f : MeltGrant → MeltGrant) : (s.modGrant d f).pending = s.pending := rfl

/-! ### State.modFeed -/

@[simp] theorem State.modFeed_siteTime (f : Feed → Feed) : (s.modFeed f).siteTime = s.siteTime := rfl
@[simp] theorem State.modFeed_arrayClock (f : Feed → Feed) : (s.modFeed f).arrayClock = s.arrayClock := rfl
@[simp] theorem State.modFeed_dishes (f : Feed → Feed) : (s.modFeed f).dishes = s.dishes := rfl
@[simp] theorem State.modFeed_groups (f : Feed → Feed) : (s.modFeed f).groups = s.groups := rfl
@[simp] theorem State.modFeed_drive (f : Feed → Feed) : (s.modFeed f).drive = s.drive := rfl
@[simp] theorem State.modFeed_grants (f : Feed → Feed) : (s.modFeed f).grants = s.grants := rfl
@[simp] theorem State.modFeed_feed (f : Feed → Feed) : (s.modFeed f).feed = f s.feed := rfl
@[simp] theorem State.modFeed_scan (f : Feed → Feed) : (s.modFeed f).scan = s.scan := rfl
@[simp] theorem State.modFeed_cells (f : Feed → Feed) : (s.modFeed f).cells = s.cells := rfl
@[simp] theorem State.modFeed_stowQueue (f : Feed → Feed) : (s.modFeed f).stowQueue = s.stowQueue := rfl
@[simp] theorem State.modFeed_stowMoves (f : Feed → Feed) : (s.modFeed f).stowMoves = s.stowMoves := rfl
@[simp] theorem State.modFeed_siteCode (f : Feed → Feed) : (s.modFeed f).siteCode = s.siteCode := rfl
@[simp] theorem State.modFeed_detector (f : Feed → Feed) : (s.modFeed f).detector = s.detector := rfl
@[simp] theorem State.modFeed_circuits (f : Feed → Feed) : (s.modFeed f).circuits = s.circuits := rfl
@[simp] theorem State.modFeed_meltWeather (f : Feed → Feed) : (s.modFeed f).meltWeather = s.meltWeather := rfl
@[simp] theorem State.modFeed_settings (f : Feed → Feed) : (s.modFeed f).settings = s.settings := rfl
@[simp] theorem State.modFeed_tags (f : Feed → Feed) : (s.modFeed f).tags = s.tags := rfl
@[simp] theorem State.modFeed_bus (f : Feed → Feed) : (s.modFeed f).bus = s.bus := rfl
@[simp] theorem State.modFeed_engines (f : Feed → Feed) : (s.modFeed f).engines = s.engines := rfl
@[simp] theorem State.modFeed_port (f : Feed → Feed) : (s.modFeed f).port = s.port := rfl
@[simp] theorem State.modFeed_serveDue (f : Feed → Feed) : (s.modFeed f).serveDue = s.serveDue := rfl
@[simp] theorem State.modFeed_freeCount (f : Feed → Feed) : (s.modFeed f).freeCount = s.freeCount := rfl
@[simp] theorem State.modFeed_pending (f : Feed → Feed) : (s.modFeed f).pending = s.pending := rfl

/-! ### State.modScan -/

@[simp] theorem State.modScan_siteTime (f : Scan → Scan) : (s.modScan f).siteTime = s.siteTime := rfl
@[simp] theorem State.modScan_arrayClock (f : Scan → Scan) : (s.modScan f).arrayClock = s.arrayClock := rfl
@[simp] theorem State.modScan_dishes (f : Scan → Scan) : (s.modScan f).dishes = s.dishes := rfl
@[simp] theorem State.modScan_groups (f : Scan → Scan) : (s.modScan f).groups = s.groups := rfl
@[simp] theorem State.modScan_drive (f : Scan → Scan) : (s.modScan f).drive = s.drive := rfl
@[simp] theorem State.modScan_grants (f : Scan → Scan) : (s.modScan f).grants = s.grants := rfl
@[simp] theorem State.modScan_feed (f : Scan → Scan) : (s.modScan f).feed = s.feed := rfl
@[simp] theorem State.modScan_scan (f : Scan → Scan) : (s.modScan f).scan = f s.scan := rfl
@[simp] theorem State.modScan_cells (f : Scan → Scan) : (s.modScan f).cells = s.cells := rfl
@[simp] theorem State.modScan_stowQueue (f : Scan → Scan) : (s.modScan f).stowQueue = s.stowQueue := rfl
@[simp] theorem State.modScan_stowMoves (f : Scan → Scan) : (s.modScan f).stowMoves = s.stowMoves := rfl
@[simp] theorem State.modScan_siteCode (f : Scan → Scan) : (s.modScan f).siteCode = s.siteCode := rfl
@[simp] theorem State.modScan_detector (f : Scan → Scan) : (s.modScan f).detector = s.detector := rfl
@[simp] theorem State.modScan_circuits (f : Scan → Scan) : (s.modScan f).circuits = s.circuits := rfl
@[simp] theorem State.modScan_meltWeather (f : Scan → Scan) : (s.modScan f).meltWeather = s.meltWeather := rfl
@[simp] theorem State.modScan_settings (f : Scan → Scan) : (s.modScan f).settings = s.settings := rfl
@[simp] theorem State.modScan_tags (f : Scan → Scan) : (s.modScan f).tags = s.tags := rfl
@[simp] theorem State.modScan_bus (f : Scan → Scan) : (s.modScan f).bus = s.bus := rfl
@[simp] theorem State.modScan_engines (f : Scan → Scan) : (s.modScan f).engines = s.engines := rfl
@[simp] theorem State.modScan_port (f : Scan → Scan) : (s.modScan f).port = s.port := rfl
@[simp] theorem State.modScan_serveDue (f : Scan → Scan) : (s.modScan f).serveDue = s.serveDue := rfl
@[simp] theorem State.modScan_freeCount (f : Scan → Scan) : (s.modScan f).freeCount = s.freeCount := rfl
@[simp] theorem State.modScan_pending (f : Scan → Scan) : (s.modScan f).pending = s.pending := rfl

/-! ### State.modCell -/

@[simp] theorem State.modCell_siteTime (c : CellNo) (f : Cell → Cell) : (s.modCell c f).siteTime = s.siteTime := rfl
@[simp] theorem State.modCell_arrayClock (c : CellNo) (f : Cell → Cell) : (s.modCell c f).arrayClock = s.arrayClock := rfl
@[simp] theorem State.modCell_dishes (c : CellNo) (f : Cell → Cell) : (s.modCell c f).dishes = s.dishes := rfl
@[simp] theorem State.modCell_groups (c : CellNo) (f : Cell → Cell) : (s.modCell c f).groups = s.groups := rfl
@[simp] theorem State.modCell_drive (c : CellNo) (f : Cell → Cell) : (s.modCell c f).drive = s.drive := rfl
@[simp] theorem State.modCell_grants (c : CellNo) (f : Cell → Cell) : (s.modCell c f).grants = s.grants := rfl
@[simp] theorem State.modCell_feed (c : CellNo) (f : Cell → Cell) : (s.modCell c f).feed = s.feed := rfl
@[simp] theorem State.modCell_scan (c : CellNo) (f : Cell → Cell) : (s.modCell c f).scan = s.scan := rfl
@[simp] theorem State.modCell_cells (c : CellNo) (f : Cell → Cell) : (s.modCell c f).cells = s.cells.set c (f s.cells[c]) := rfl
@[simp] theorem State.modCell_stowQueue (c : CellNo) (f : Cell → Cell) : (s.modCell c f).stowQueue = s.stowQueue := rfl
@[simp] theorem State.modCell_stowMoves (c : CellNo) (f : Cell → Cell) : (s.modCell c f).stowMoves = s.stowMoves := rfl
@[simp] theorem State.modCell_siteCode (c : CellNo) (f : Cell → Cell) : (s.modCell c f).siteCode = s.siteCode := rfl
@[simp] theorem State.modCell_detector (c : CellNo) (f : Cell → Cell) : (s.modCell c f).detector = s.detector := rfl
@[simp] theorem State.modCell_circuits (c : CellNo) (f : Cell → Cell) : (s.modCell c f).circuits = s.circuits := rfl
@[simp] theorem State.modCell_meltWeather (c : CellNo) (f : Cell → Cell) : (s.modCell c f).meltWeather = s.meltWeather := rfl
@[simp] theorem State.modCell_settings (c : CellNo) (f : Cell → Cell) : (s.modCell c f).settings = s.settings := rfl
@[simp] theorem State.modCell_tags (c : CellNo) (f : Cell → Cell) : (s.modCell c f).tags = s.tags := rfl
@[simp] theorem State.modCell_bus (c : CellNo) (f : Cell → Cell) : (s.modCell c f).bus = s.bus := rfl
@[simp] theorem State.modCell_engines (c : CellNo) (f : Cell → Cell) : (s.modCell c f).engines = s.engines := rfl
@[simp] theorem State.modCell_port (c : CellNo) (f : Cell → Cell) : (s.modCell c f).port = s.port := rfl
@[simp] theorem State.modCell_serveDue (c : CellNo) (f : Cell → Cell) : (s.modCell c f).serveDue = s.serveDue := rfl
@[simp] theorem State.modCell_freeCount (c : CellNo) (f : Cell → Cell) : (s.modCell c f).freeCount = s.freeCount := rfl
@[simp] theorem State.modCell_pending (c : CellNo) (f : Cell → Cell) : (s.modCell c f).pending = s.pending := rfl

/-! ### State.setQueue -/

@[simp] theorem State.setQueue_siteTime (q : List DishNo) : (s.setQueue q).siteTime = s.siteTime := rfl
@[simp] theorem State.setQueue_arrayClock (q : List DishNo) : (s.setQueue q).arrayClock = s.arrayClock := rfl
@[simp] theorem State.setQueue_dishes (q : List DishNo) : (s.setQueue q).dishes = s.dishes := rfl
@[simp] theorem State.setQueue_groups (q : List DishNo) : (s.setQueue q).groups = s.groups := rfl
@[simp] theorem State.setQueue_drive (q : List DishNo) : (s.setQueue q).drive = s.drive := rfl
@[simp] theorem State.setQueue_grants (q : List DishNo) : (s.setQueue q).grants = s.grants := rfl
@[simp] theorem State.setQueue_feed (q : List DishNo) : (s.setQueue q).feed = s.feed := rfl
@[simp] theorem State.setQueue_scan (q : List DishNo) : (s.setQueue q).scan = s.scan := rfl
@[simp] theorem State.setQueue_cells (q : List DishNo) : (s.setQueue q).cells = s.cells := rfl
@[simp] theorem State.setQueue_stowQueue (q : List DishNo) : (s.setQueue q).stowQueue = q := rfl
@[simp] theorem State.setQueue_stowMoves (q : List DishNo) : (s.setQueue q).stowMoves = s.stowMoves := rfl
@[simp] theorem State.setQueue_siteCode (q : List DishNo) : (s.setQueue q).siteCode = s.siteCode := rfl
@[simp] theorem State.setQueue_detector (q : List DishNo) : (s.setQueue q).detector = s.detector := rfl
@[simp] theorem State.setQueue_circuits (q : List DishNo) : (s.setQueue q).circuits = s.circuits := rfl
@[simp] theorem State.setQueue_meltWeather (q : List DishNo) : (s.setQueue q).meltWeather = s.meltWeather := rfl
@[simp] theorem State.setQueue_settings (q : List DishNo) : (s.setQueue q).settings = s.settings := rfl
@[simp] theorem State.setQueue_tags (q : List DishNo) : (s.setQueue q).tags = s.tags := rfl
@[simp] theorem State.setQueue_bus (q : List DishNo) : (s.setQueue q).bus = s.bus := rfl
@[simp] theorem State.setQueue_engines (q : List DishNo) : (s.setQueue q).engines = s.engines := rfl
@[simp] theorem State.setQueue_port (q : List DishNo) : (s.setQueue q).port = s.port := rfl
@[simp] theorem State.setQueue_serveDue (q : List DishNo) : (s.setQueue q).serveDue = s.serveDue := rfl
@[simp] theorem State.setQueue_freeCount (q : List DishNo) : (s.setQueue q).freeCount = s.freeCount := rfl
@[simp] theorem State.setQueue_pending (q : List DishNo) : (s.setQueue q).pending = s.pending := rfl

/-! ### State.setStowMove -/

@[simp] theorem State.setStowMove_siteTime (d : DishNo) (o : Option StowMove) : (s.setStowMove d o).siteTime = s.siteTime := rfl
@[simp] theorem State.setStowMove_arrayClock (d : DishNo) (o : Option StowMove) : (s.setStowMove d o).arrayClock = s.arrayClock := rfl
@[simp] theorem State.setStowMove_dishes (d : DishNo) (o : Option StowMove) : (s.setStowMove d o).dishes = s.dishes := rfl
@[simp] theorem State.setStowMove_groups (d : DishNo) (o : Option StowMove) : (s.setStowMove d o).groups = s.groups := rfl
@[simp] theorem State.setStowMove_drive (d : DishNo) (o : Option StowMove) : (s.setStowMove d o).drive = s.drive := rfl
@[simp] theorem State.setStowMove_grants (d : DishNo) (o : Option StowMove) : (s.setStowMove d o).grants = s.grants := rfl
@[simp] theorem State.setStowMove_feed (d : DishNo) (o : Option StowMove) : (s.setStowMove d o).feed = s.feed := rfl
@[simp] theorem State.setStowMove_scan (d : DishNo) (o : Option StowMove) : (s.setStowMove d o).scan = s.scan := rfl
@[simp] theorem State.setStowMove_cells (d : DishNo) (o : Option StowMove) : (s.setStowMove d o).cells = s.cells := rfl
@[simp] theorem State.setStowMove_stowQueue (d : DishNo) (o : Option StowMove) : (s.setStowMove d o).stowQueue = s.stowQueue := rfl
@[simp] theorem State.setStowMove_stowMoves (d : DishNo) (o : Option StowMove) : (s.setStowMove d o).stowMoves = s.stowMoves.set d o := rfl
@[simp] theorem State.setStowMove_siteCode (d : DishNo) (o : Option StowMove) : (s.setStowMove d o).siteCode = s.siteCode := rfl
@[simp] theorem State.setStowMove_detector (d : DishNo) (o : Option StowMove) : (s.setStowMove d o).detector = s.detector := rfl
@[simp] theorem State.setStowMove_circuits (d : DishNo) (o : Option StowMove) : (s.setStowMove d o).circuits = s.circuits := rfl
@[simp] theorem State.setStowMove_meltWeather (d : DishNo) (o : Option StowMove) : (s.setStowMove d o).meltWeather = s.meltWeather := rfl
@[simp] theorem State.setStowMove_settings (d : DishNo) (o : Option StowMove) : (s.setStowMove d o).settings = s.settings := rfl
@[simp] theorem State.setStowMove_tags (d : DishNo) (o : Option StowMove) : (s.setStowMove d o).tags = s.tags := rfl
@[simp] theorem State.setStowMove_bus (d : DishNo) (o : Option StowMove) : (s.setStowMove d o).bus = s.bus := rfl
@[simp] theorem State.setStowMove_engines (d : DishNo) (o : Option StowMove) : (s.setStowMove d o).engines = s.engines := rfl
@[simp] theorem State.setStowMove_port (d : DishNo) (o : Option StowMove) : (s.setStowMove d o).port = s.port := rfl
@[simp] theorem State.setStowMove_serveDue (d : DishNo) (o : Option StowMove) : (s.setStowMove d o).serveDue = s.serveDue := rfl
@[simp] theorem State.setStowMove_freeCount (d : DishNo) (o : Option StowMove) : (s.setStowMove d o).freeCount = s.freeCount := rfl
@[simp] theorem State.setStowMove_pending (d : DishNo) (o : Option StowMove) : (s.setStowMove d o).pending = s.pending := rfl

/-! ### State.setDetector -/

@[simp] theorem State.setDetector_siteTime (x : Detector) : (s.setDetector x).siteTime = s.siteTime := rfl
@[simp] theorem State.setDetector_arrayClock (x : Detector) : (s.setDetector x).arrayClock = s.arrayClock := rfl
@[simp] theorem State.setDetector_dishes (x : Detector) : (s.setDetector x).dishes = s.dishes := rfl
@[simp] theorem State.setDetector_groups (x : Detector) : (s.setDetector x).groups = s.groups := rfl
@[simp] theorem State.setDetector_drive (x : Detector) : (s.setDetector x).drive = s.drive := rfl
@[simp] theorem State.setDetector_grants (x : Detector) : (s.setDetector x).grants = s.grants := rfl
@[simp] theorem State.setDetector_feed (x : Detector) : (s.setDetector x).feed = s.feed := rfl
@[simp] theorem State.setDetector_scan (x : Detector) : (s.setDetector x).scan = s.scan := rfl
@[simp] theorem State.setDetector_cells (x : Detector) : (s.setDetector x).cells = s.cells := rfl
@[simp] theorem State.setDetector_stowQueue (x : Detector) : (s.setDetector x).stowQueue = s.stowQueue := rfl
@[simp] theorem State.setDetector_stowMoves (x : Detector) : (s.setDetector x).stowMoves = s.stowMoves := rfl
@[simp] theorem State.setDetector_siteCode (x : Detector) : (s.setDetector x).siteCode = s.siteCode := rfl
@[simp] theorem State.setDetector_detector (x : Detector) : (s.setDetector x).detector = x := rfl
@[simp] theorem State.setDetector_circuits (x : Detector) : (s.setDetector x).circuits = s.circuits := rfl
@[simp] theorem State.setDetector_meltWeather (x : Detector) : (s.setDetector x).meltWeather = s.meltWeather := rfl
@[simp] theorem State.setDetector_settings (x : Detector) : (s.setDetector x).settings = s.settings := rfl
@[simp] theorem State.setDetector_tags (x : Detector) : (s.setDetector x).tags = s.tags := rfl
@[simp] theorem State.setDetector_bus (x : Detector) : (s.setDetector x).bus = s.bus := rfl
@[simp] theorem State.setDetector_engines (x : Detector) : (s.setDetector x).engines = s.engines := rfl
@[simp] theorem State.setDetector_port (x : Detector) : (s.setDetector x).port = s.port := rfl
@[simp] theorem State.setDetector_serveDue (x : Detector) : (s.setDetector x).serveDue = s.serveDue := rfl
@[simp] theorem State.setDetector_freeCount (x : Detector) : (s.setDetector x).freeCount = s.freeCount := rfl
@[simp] theorem State.setDetector_pending (x : Detector) : (s.setDetector x).pending = s.pending := rfl

/-! ### State.modCircuit -/

@[simp] theorem State.modCircuit_siteTime (d : DishNo) (f : Circuit → Circuit) : (s.modCircuit d f).siteTime = s.siteTime := rfl
@[simp] theorem State.modCircuit_arrayClock (d : DishNo) (f : Circuit → Circuit) : (s.modCircuit d f).arrayClock = s.arrayClock := rfl
@[simp] theorem State.modCircuit_dishes (d : DishNo) (f : Circuit → Circuit) : (s.modCircuit d f).dishes = s.dishes := rfl
@[simp] theorem State.modCircuit_groups (d : DishNo) (f : Circuit → Circuit) : (s.modCircuit d f).groups = s.groups := rfl
@[simp] theorem State.modCircuit_drive (d : DishNo) (f : Circuit → Circuit) : (s.modCircuit d f).drive = s.drive := rfl
@[simp] theorem State.modCircuit_grants (d : DishNo) (f : Circuit → Circuit) : (s.modCircuit d f).grants = s.grants := rfl
@[simp] theorem State.modCircuit_feed (d : DishNo) (f : Circuit → Circuit) : (s.modCircuit d f).feed = s.feed := rfl
@[simp] theorem State.modCircuit_scan (d : DishNo) (f : Circuit → Circuit) : (s.modCircuit d f).scan = s.scan := rfl
@[simp] theorem State.modCircuit_cells (d : DishNo) (f : Circuit → Circuit) : (s.modCircuit d f).cells = s.cells := rfl
@[simp] theorem State.modCircuit_stowQueue (d : DishNo) (f : Circuit → Circuit) : (s.modCircuit d f).stowQueue = s.stowQueue := rfl
@[simp] theorem State.modCircuit_stowMoves (d : DishNo) (f : Circuit → Circuit) : (s.modCircuit d f).stowMoves = s.stowMoves := rfl
@[simp] theorem State.modCircuit_siteCode (d : DishNo) (f : Circuit → Circuit) : (s.modCircuit d f).siteCode = s.siteCode := rfl
@[simp] theorem State.modCircuit_detector (d : DishNo) (f : Circuit → Circuit) : (s.modCircuit d f).detector = s.detector := rfl
@[simp] theorem State.modCircuit_circuits (d : DishNo) (f : Circuit → Circuit) : (s.modCircuit d f).circuits = s.circuits.set d (f s.circuits[d]) := rfl
@[simp] theorem State.modCircuit_meltWeather (d : DishNo) (f : Circuit → Circuit) : (s.modCircuit d f).meltWeather = s.meltWeather := rfl
@[simp] theorem State.modCircuit_settings (d : DishNo) (f : Circuit → Circuit) : (s.modCircuit d f).settings = s.settings := rfl
@[simp] theorem State.modCircuit_tags (d : DishNo) (f : Circuit → Circuit) : (s.modCircuit d f).tags = s.tags := rfl
@[simp] theorem State.modCircuit_bus (d : DishNo) (f : Circuit → Circuit) : (s.modCircuit d f).bus = s.bus := rfl
@[simp] theorem State.modCircuit_engines (d : DishNo) (f : Circuit → Circuit) : (s.modCircuit d f).engines = s.engines := rfl
@[simp] theorem State.modCircuit_port (d : DishNo) (f : Circuit → Circuit) : (s.modCircuit d f).port = s.port := rfl
@[simp] theorem State.modCircuit_serveDue (d : DishNo) (f : Circuit → Circuit) : (s.modCircuit d f).serveDue = s.serveDue := rfl
@[simp] theorem State.modCircuit_freeCount (d : DishNo) (f : Circuit → Circuit) : (s.modCircuit d f).freeCount = s.freeCount := rfl
@[simp] theorem State.modCircuit_pending (d : DishNo) (f : Circuit → Circuit) : (s.modCircuit d f).pending = s.pending := rfl

/-! ### State.modWeather -/

@[simp] theorem State.modWeather_siteTime (f : MeltWeather → MeltWeather) : (s.modWeather f).siteTime = s.siteTime := rfl
@[simp] theorem State.modWeather_arrayClock (f : MeltWeather → MeltWeather) : (s.modWeather f).arrayClock = s.arrayClock := rfl
@[simp] theorem State.modWeather_dishes (f : MeltWeather → MeltWeather) : (s.modWeather f).dishes = s.dishes := rfl
@[simp] theorem State.modWeather_groups (f : MeltWeather → MeltWeather) : (s.modWeather f).groups = s.groups := rfl
@[simp] theorem State.modWeather_drive (f : MeltWeather → MeltWeather) : (s.modWeather f).drive = s.drive := rfl
@[simp] theorem State.modWeather_grants (f : MeltWeather → MeltWeather) : (s.modWeather f).grants = s.grants := rfl
@[simp] theorem State.modWeather_feed (f : MeltWeather → MeltWeather) : (s.modWeather f).feed = s.feed := rfl
@[simp] theorem State.modWeather_scan (f : MeltWeather → MeltWeather) : (s.modWeather f).scan = s.scan := rfl
@[simp] theorem State.modWeather_cells (f : MeltWeather → MeltWeather) : (s.modWeather f).cells = s.cells := rfl
@[simp] theorem State.modWeather_stowQueue (f : MeltWeather → MeltWeather) : (s.modWeather f).stowQueue = s.stowQueue := rfl
@[simp] theorem State.modWeather_stowMoves (f : MeltWeather → MeltWeather) : (s.modWeather f).stowMoves = s.stowMoves := rfl
@[simp] theorem State.modWeather_siteCode (f : MeltWeather → MeltWeather) : (s.modWeather f).siteCode = s.siteCode := rfl
@[simp] theorem State.modWeather_detector (f : MeltWeather → MeltWeather) : (s.modWeather f).detector = s.detector := rfl
@[simp] theorem State.modWeather_circuits (f : MeltWeather → MeltWeather) : (s.modWeather f).circuits = s.circuits := rfl
@[simp] theorem State.modWeather_meltWeather (f : MeltWeather → MeltWeather) : (s.modWeather f).meltWeather = f s.meltWeather := rfl
@[simp] theorem State.modWeather_settings (f : MeltWeather → MeltWeather) : (s.modWeather f).settings = s.settings := rfl
@[simp] theorem State.modWeather_tags (f : MeltWeather → MeltWeather) : (s.modWeather f).tags = s.tags := rfl
@[simp] theorem State.modWeather_bus (f : MeltWeather → MeltWeather) : (s.modWeather f).bus = s.bus := rfl
@[simp] theorem State.modWeather_engines (f : MeltWeather → MeltWeather) : (s.modWeather f).engines = s.engines := rfl
@[simp] theorem State.modWeather_port (f : MeltWeather → MeltWeather) : (s.modWeather f).port = s.port := rfl
@[simp] theorem State.modWeather_serveDue (f : MeltWeather → MeltWeather) : (s.modWeather f).serveDue = s.serveDue := rfl
@[simp] theorem State.modWeather_freeCount (f : MeltWeather → MeltWeather) : (s.modWeather f).freeCount = s.freeCount := rfl
@[simp] theorem State.modWeather_pending (f : MeltWeather → MeltWeather) : (s.modWeather f).pending = s.pending := rfl

/-! ### State.setTag -/

@[simp] theorem State.setTag_siteTime (t : TagNo) (o : Option Tag) : (s.setTag t o).siteTime = s.siteTime := rfl
@[simp] theorem State.setTag_arrayClock (t : TagNo) (o : Option Tag) : (s.setTag t o).arrayClock = s.arrayClock := rfl
@[simp] theorem State.setTag_dishes (t : TagNo) (o : Option Tag) : (s.setTag t o).dishes = s.dishes := rfl
@[simp] theorem State.setTag_groups (t : TagNo) (o : Option Tag) : (s.setTag t o).groups = s.groups := rfl
@[simp] theorem State.setTag_drive (t : TagNo) (o : Option Tag) : (s.setTag t o).drive = s.drive := rfl
@[simp] theorem State.setTag_grants (t : TagNo) (o : Option Tag) : (s.setTag t o).grants = s.grants := rfl
@[simp] theorem State.setTag_feed (t : TagNo) (o : Option Tag) : (s.setTag t o).feed = s.feed := rfl
@[simp] theorem State.setTag_scan (t : TagNo) (o : Option Tag) : (s.setTag t o).scan = s.scan := rfl
@[simp] theorem State.setTag_cells (t : TagNo) (o : Option Tag) : (s.setTag t o).cells = s.cells := rfl
@[simp] theorem State.setTag_stowQueue (t : TagNo) (o : Option Tag) : (s.setTag t o).stowQueue = s.stowQueue := rfl
@[simp] theorem State.setTag_stowMoves (t : TagNo) (o : Option Tag) : (s.setTag t o).stowMoves = s.stowMoves := rfl
@[simp] theorem State.setTag_siteCode (t : TagNo) (o : Option Tag) : (s.setTag t o).siteCode = s.siteCode := rfl
@[simp] theorem State.setTag_detector (t : TagNo) (o : Option Tag) : (s.setTag t o).detector = s.detector := rfl
@[simp] theorem State.setTag_circuits (t : TagNo) (o : Option Tag) : (s.setTag t o).circuits = s.circuits := rfl
@[simp] theorem State.setTag_meltWeather (t : TagNo) (o : Option Tag) : (s.setTag t o).meltWeather = s.meltWeather := rfl
@[simp] theorem State.setTag_settings (t : TagNo) (o : Option Tag) : (s.setTag t o).settings = s.settings := rfl
@[simp] theorem State.setTag_tags (t : TagNo) (o : Option Tag) : (s.setTag t o).tags = s.tags.set t o := rfl
@[simp] theorem State.setTag_bus (t : TagNo) (o : Option Tag) : (s.setTag t o).bus = s.bus := rfl
@[simp] theorem State.setTag_engines (t : TagNo) (o : Option Tag) : (s.setTag t o).engines = s.engines := rfl
@[simp] theorem State.setTag_port (t : TagNo) (o : Option Tag) : (s.setTag t o).port = s.port := rfl
@[simp] theorem State.setTag_serveDue (t : TagNo) (o : Option Tag) : (s.setTag t o).serveDue = s.serveDue := rfl
@[simp] theorem State.setTag_freeCount (t : TagNo) (o : Option Tag) : (s.setTag t o).freeCount = s.freeCount := rfl
@[simp] theorem State.setTag_pending (t : TagNo) (o : Option Tag) : (s.setTag t o).pending = s.pending := rfl

/-! ### State.modBus -/

@[simp] theorem State.modBus_siteTime (d : DishNo) (f : BusRecord → BusRecord) : (s.modBus d f).siteTime = s.siteTime := rfl
@[simp] theorem State.modBus_arrayClock (d : DishNo) (f : BusRecord → BusRecord) : (s.modBus d f).arrayClock = s.arrayClock := rfl
@[simp] theorem State.modBus_dishes (d : DishNo) (f : BusRecord → BusRecord) : (s.modBus d f).dishes = s.dishes := rfl
@[simp] theorem State.modBus_groups (d : DishNo) (f : BusRecord → BusRecord) : (s.modBus d f).groups = s.groups := rfl
@[simp] theorem State.modBus_drive (d : DishNo) (f : BusRecord → BusRecord) : (s.modBus d f).drive = s.drive := rfl
@[simp] theorem State.modBus_grants (d : DishNo) (f : BusRecord → BusRecord) : (s.modBus d f).grants = s.grants := rfl
@[simp] theorem State.modBus_feed (d : DishNo) (f : BusRecord → BusRecord) : (s.modBus d f).feed = s.feed := rfl
@[simp] theorem State.modBus_scan (d : DishNo) (f : BusRecord → BusRecord) : (s.modBus d f).scan = s.scan := rfl
@[simp] theorem State.modBus_cells (d : DishNo) (f : BusRecord → BusRecord) : (s.modBus d f).cells = s.cells := rfl
@[simp] theorem State.modBus_stowQueue (d : DishNo) (f : BusRecord → BusRecord) : (s.modBus d f).stowQueue = s.stowQueue := rfl
@[simp] theorem State.modBus_stowMoves (d : DishNo) (f : BusRecord → BusRecord) : (s.modBus d f).stowMoves = s.stowMoves := rfl
@[simp] theorem State.modBus_siteCode (d : DishNo) (f : BusRecord → BusRecord) : (s.modBus d f).siteCode = s.siteCode := rfl
@[simp] theorem State.modBus_detector (d : DishNo) (f : BusRecord → BusRecord) : (s.modBus d f).detector = s.detector := rfl
@[simp] theorem State.modBus_circuits (d : DishNo) (f : BusRecord → BusRecord) : (s.modBus d f).circuits = s.circuits := rfl
@[simp] theorem State.modBus_meltWeather (d : DishNo) (f : BusRecord → BusRecord) : (s.modBus d f).meltWeather = s.meltWeather := rfl
@[simp] theorem State.modBus_settings (d : DishNo) (f : BusRecord → BusRecord) : (s.modBus d f).settings = s.settings := rfl
@[simp] theorem State.modBus_tags (d : DishNo) (f : BusRecord → BusRecord) : (s.modBus d f).tags = s.tags := rfl
@[simp] theorem State.modBus_bus (d : DishNo) (f : BusRecord → BusRecord) : (s.modBus d f).bus = s.bus.set d (f s.bus[d]) := rfl
@[simp] theorem State.modBus_engines (d : DishNo) (f : BusRecord → BusRecord) : (s.modBus d f).engines = s.engines := rfl
@[simp] theorem State.modBus_port (d : DishNo) (f : BusRecord → BusRecord) : (s.modBus d f).port = s.port := rfl
@[simp] theorem State.modBus_serveDue (d : DishNo) (f : BusRecord → BusRecord) : (s.modBus d f).serveDue = s.serveDue := rfl
@[simp] theorem State.modBus_freeCount (d : DishNo) (f : BusRecord → BusRecord) : (s.modBus d f).freeCount = s.freeCount := rfl
@[simp] theorem State.modBus_pending (d : DishNo) (f : BusRecord → BusRecord) : (s.modBus d f).pending = s.pending := rfl

/-! ### State.modEngine -/

@[simp] theorem State.modEngine_siteTime (g : SegNo) (f : Engine → Engine) : (s.modEngine g f).siteTime = s.siteTime := rfl
@[simp] theorem State.modEngine_arrayClock (g : SegNo) (f : Engine → Engine) : (s.modEngine g f).arrayClock = s.arrayClock := rfl
@[simp] theorem State.modEngine_dishes (g : SegNo) (f : Engine → Engine) : (s.modEngine g f).dishes = s.dishes := rfl
@[simp] theorem State.modEngine_groups (g : SegNo) (f : Engine → Engine) : (s.modEngine g f).groups = s.groups := rfl
@[simp] theorem State.modEngine_drive (g : SegNo) (f : Engine → Engine) : (s.modEngine g f).drive = s.drive := rfl
@[simp] theorem State.modEngine_grants (g : SegNo) (f : Engine → Engine) : (s.modEngine g f).grants = s.grants := rfl
@[simp] theorem State.modEngine_feed (g : SegNo) (f : Engine → Engine) : (s.modEngine g f).feed = s.feed := rfl
@[simp] theorem State.modEngine_scan (g : SegNo) (f : Engine → Engine) : (s.modEngine g f).scan = s.scan := rfl
@[simp] theorem State.modEngine_cells (g : SegNo) (f : Engine → Engine) : (s.modEngine g f).cells = s.cells := rfl
@[simp] theorem State.modEngine_stowQueue (g : SegNo) (f : Engine → Engine) : (s.modEngine g f).stowQueue = s.stowQueue := rfl
@[simp] theorem State.modEngine_stowMoves (g : SegNo) (f : Engine → Engine) : (s.modEngine g f).stowMoves = s.stowMoves := rfl
@[simp] theorem State.modEngine_siteCode (g : SegNo) (f : Engine → Engine) : (s.modEngine g f).siteCode = s.siteCode := rfl
@[simp] theorem State.modEngine_detector (g : SegNo) (f : Engine → Engine) : (s.modEngine g f).detector = s.detector := rfl
@[simp] theorem State.modEngine_circuits (g : SegNo) (f : Engine → Engine) : (s.modEngine g f).circuits = s.circuits := rfl
@[simp] theorem State.modEngine_meltWeather (g : SegNo) (f : Engine → Engine) : (s.modEngine g f).meltWeather = s.meltWeather := rfl
@[simp] theorem State.modEngine_settings (g : SegNo) (f : Engine → Engine) : (s.modEngine g f).settings = s.settings := rfl
@[simp] theorem State.modEngine_tags (g : SegNo) (f : Engine → Engine) : (s.modEngine g f).tags = s.tags := rfl
@[simp] theorem State.modEngine_bus (g : SegNo) (f : Engine → Engine) : (s.modEngine g f).bus = s.bus := rfl
@[simp] theorem State.modEngine_engines (g : SegNo) (f : Engine → Engine) : (s.modEngine g f).engines = s.engines.set g (f s.engines[g]) := rfl
@[simp] theorem State.modEngine_port (g : SegNo) (f : Engine → Engine) : (s.modEngine g f).port = s.port := rfl
@[simp] theorem State.modEngine_serveDue (g : SegNo) (f : Engine → Engine) : (s.modEngine g f).serveDue = s.serveDue := rfl
@[simp] theorem State.modEngine_freeCount (g : SegNo) (f : Engine → Engine) : (s.modEngine g f).freeCount = s.freeCount := rfl
@[simp] theorem State.modEngine_pending (g : SegNo) (f : Engine → Engine) : (s.modEngine g f).pending = s.pending := rfl

/-! ### State.modPort -/

@[simp] theorem State.modPort_siteTime (f : Port → Port) : (s.modPort f).siteTime = s.siteTime := rfl
@[simp] theorem State.modPort_arrayClock (f : Port → Port) : (s.modPort f).arrayClock = s.arrayClock := rfl
@[simp] theorem State.modPort_dishes (f : Port → Port) : (s.modPort f).dishes = s.dishes := rfl
@[simp] theorem State.modPort_groups (f : Port → Port) : (s.modPort f).groups = s.groups := rfl
@[simp] theorem State.modPort_drive (f : Port → Port) : (s.modPort f).drive = s.drive := rfl
@[simp] theorem State.modPort_grants (f : Port → Port) : (s.modPort f).grants = s.grants := rfl
@[simp] theorem State.modPort_feed (f : Port → Port) : (s.modPort f).feed = s.feed := rfl
@[simp] theorem State.modPort_scan (f : Port → Port) : (s.modPort f).scan = s.scan := rfl
@[simp] theorem State.modPort_cells (f : Port → Port) : (s.modPort f).cells = s.cells := rfl
@[simp] theorem State.modPort_stowQueue (f : Port → Port) : (s.modPort f).stowQueue = s.stowQueue := rfl
@[simp] theorem State.modPort_stowMoves (f : Port → Port) : (s.modPort f).stowMoves = s.stowMoves := rfl
@[simp] theorem State.modPort_siteCode (f : Port → Port) : (s.modPort f).siteCode = s.siteCode := rfl
@[simp] theorem State.modPort_detector (f : Port → Port) : (s.modPort f).detector = s.detector := rfl
@[simp] theorem State.modPort_circuits (f : Port → Port) : (s.modPort f).circuits = s.circuits := rfl
@[simp] theorem State.modPort_meltWeather (f : Port → Port) : (s.modPort f).meltWeather = s.meltWeather := rfl
@[simp] theorem State.modPort_settings (f : Port → Port) : (s.modPort f).settings = s.settings := rfl
@[simp] theorem State.modPort_tags (f : Port → Port) : (s.modPort f).tags = s.tags := rfl
@[simp] theorem State.modPort_bus (f : Port → Port) : (s.modPort f).bus = s.bus := rfl
@[simp] theorem State.modPort_engines (f : Port → Port) : (s.modPort f).engines = s.engines := rfl
@[simp] theorem State.modPort_port (f : Port → Port) : (s.modPort f).port = f s.port := rfl
@[simp] theorem State.modPort_serveDue (f : Port → Port) : (s.modPort f).serveDue = s.serveDue := rfl
@[simp] theorem State.modPort_freeCount (f : Port → Port) : (s.modPort f).freeCount = s.freeCount := rfl
@[simp] theorem State.modPort_pending (f : Port → Port) : (s.modPort f).pending = s.pending := rfl

/-! ### State.markServe -/

@[simp] theorem State.markServe_siteTime : s.markServe.siteTime = s.siteTime := rfl
@[simp] theorem State.markServe_arrayClock : s.markServe.arrayClock = s.arrayClock := rfl
@[simp] theorem State.markServe_dishes : s.markServe.dishes = s.dishes := rfl
@[simp] theorem State.markServe_groups : s.markServe.groups = s.groups := rfl
@[simp] theorem State.markServe_drive : s.markServe.drive = s.drive := rfl
@[simp] theorem State.markServe_grants : s.markServe.grants = s.grants := rfl
@[simp] theorem State.markServe_feed : s.markServe.feed = s.feed := rfl
@[simp] theorem State.markServe_scan : s.markServe.scan = s.scan := rfl
@[simp] theorem State.markServe_cells : s.markServe.cells = s.cells := rfl
@[simp] theorem State.markServe_stowQueue : s.markServe.stowQueue = s.stowQueue := rfl
@[simp] theorem State.markServe_stowMoves : s.markServe.stowMoves = s.stowMoves := rfl
@[simp] theorem State.markServe_siteCode : s.markServe.siteCode = s.siteCode := rfl
@[simp] theorem State.markServe_detector : s.markServe.detector = s.detector := rfl
@[simp] theorem State.markServe_circuits : s.markServe.circuits = s.circuits := rfl
@[simp] theorem State.markServe_meltWeather : s.markServe.meltWeather = s.meltWeather := rfl
@[simp] theorem State.markServe_settings : s.markServe.settings = s.settings := rfl
@[simp] theorem State.markServe_tags : s.markServe.tags = s.tags := rfl
@[simp] theorem State.markServe_bus : s.markServe.bus = s.bus := rfl
@[simp] theorem State.markServe_engines : s.markServe.engines = s.engines := rfl
@[simp] theorem State.markServe_port : s.markServe.port = s.port := rfl
@[simp] theorem State.markServe_serveDue : s.markServe.serveDue = true := rfl
@[simp] theorem State.markServe_freeCount : s.markServe.freeCount = s.freeCount := rfl
@[simp] theorem State.markServe_pending : s.markServe.pending = s.pending := rfl

/-! ### Entries of a table -/

/-- The entry that was set reads as it was set. -/
theorem getElem_set_same {α : Type} {n : Nat} (v : Vector α n) (i : Fin n) (a : α) : (v.set i a)[i] = a := by
  simp

/-- Every other entry reads as before. -/
theorem getElem_set_other {α : Type} {n : Nat} (v : Vector α n) (i j : Fin n) (a : α) (h : j ≠ i) : (v.set i a)[j] = v[j] := by
  have h' : i.val ≠ j.val := fun e => h (Fin.ext e.symm)
  simp [h']

theorem State.modDish_same (d : DishNo) (f : DishRecord → DishRecord) : (s.modDish d f).dishes[d] = f s.dishes[d] := getElem_set_same _ _ _

theorem State.modDish_other (d e : DishNo) (f : DishRecord → DishRecord) (h : e ≠ d) : (s.modDish d f).dishes[e] = s.dishes[e] :=
  getElem_set_other _ _ _ _ h

theorem State.setGroup_same (d : GroupNo) (o : Option Group) : (s.setGroup d o).groups[d] = o := getElem_set_same _ _ _

theorem State.setGroup_other (d e : GroupNo) (o : Option Group) (h : e ≠ d) : (s.setGroup d o).groups[e] = s.groups[e] :=
  getElem_set_other _ _ _ _ h

theorem State.modGroup_same (d : GroupNo) (f : Group → Group) : (s.modGroup d f).groups[d] = s.groups[d].map f := getElem_set_same _ _ _

theorem State.modGroup_other (d e : GroupNo) (f : Group → Group) (h : e ≠ d) : (s.modGroup d f).groups[e] = s.groups[e] :=
  getElem_set_other _ _ _ _ h

theorem State.modDrive_same (d : DishNo) (f : DriveRes → DriveRes) : (s.modDrive d f).drive[d] = f s.drive[d] := getElem_set_same _ _ _

theorem State.modDrive_other (d e : DishNo) (f : DriveRes → DriveRes) (h : e ≠ d) : (s.modDrive d f).drive[e] = s.drive[e] :=
  getElem_set_other _ _ _ _ h

theorem State.modGrant_same (d : DishNo) (f : MeltGrant → MeltGrant) : (s.modGrant d f).grants[d] = f s.grants[d] := getElem_set_same _ _ _

theorem State.modGrant_other (d e : DishNo) (f : MeltGrant → MeltGrant) (h : e ≠ d) : (s.modGrant d f).grants[e] = s.grants[e] :=
  getElem_set_other _ _ _ _ h

theorem State.modCell_same (d : CellNo) (f : Cell → Cell) : (s.modCell d f).cells[d] = f s.cells[d] := getElem_set_same _ _ _

theorem State.modCell_other (d e : CellNo) (f : Cell → Cell) (h : e ≠ d) : (s.modCell d f).cells[e] = s.cells[e] :=
  getElem_set_other _ _ _ _ h

theorem State.setStowMove_same (d : DishNo) (o : Option StowMove) : (s.setStowMove d o).stowMoves[d] = o := getElem_set_same _ _ _

theorem State.setStowMove_other (d e : DishNo) (o : Option StowMove) (h : e ≠ d) : (s.setStowMove d o).stowMoves[e] = s.stowMoves[e] :=
  getElem_set_other _ _ _ _ h

theorem State.modCircuit_same (d : DishNo) (f : Circuit → Circuit) : (s.modCircuit d f).circuits[d] = f s.circuits[d] := getElem_set_same _ _ _

theorem State.modCircuit_other (d e : DishNo) (f : Circuit → Circuit) (h : e ≠ d) : (s.modCircuit d f).circuits[e] = s.circuits[e] :=
  getElem_set_other _ _ _ _ h

theorem State.setTag_same (d : TagNo) (o : Option Tag) : (s.setTag d o).tags[d] = o := getElem_set_same _ _ _

theorem State.setTag_other (d e : TagNo) (o : Option Tag) (h : e ≠ d) : (s.setTag d o).tags[e] = s.tags[e] :=
  getElem_set_other _ _ _ _ h

theorem State.modBus_same (d : DishNo) (f : BusRecord → BusRecord) : (s.modBus d f).bus[d] = f s.bus[d] := getElem_set_same _ _ _

theorem State.modBus_other (d e : DishNo) (f : BusRecord → BusRecord) (h : e ≠ d) : (s.modBus d f).bus[e] = s.bus[e] :=
  getElem_set_other _ _ _ _ h

theorem State.modEngine_same (d : SegNo) (f : Engine → Engine) : (s.modEngine d f).engines[d] = f s.engines[d] := getElem_set_same _ _ _

theorem State.modEngine_other (d e : SegNo) (f : Engine → Engine) (h : e ≠ d) : (s.modEngine d f).engines[e] = s.engines[e] :=
  getElem_set_other _ _ _ _ h

end Machine
end Sys2Proof
end

