-- ==== Sys2Proof/Laws/Ops.lean ====
section
/-! SUPPORT. One lemma for each shared operation, to be cited in place of unfolding it: which pieces of state it touches (every other
piece reads as before), and where that is short the whole of what it writes. -/

namespace Sys2Proof
namespace Machine

/-! ### Sums over the dishes -/

/-- A sum over a list without repeats after one term has changed. -/
theorem sum_update {α : Type} [DecidableEq α] (f g : α → Nat) (a : α) (l : List α) (hl : l.Nodup) (ha : a ∈ l)
    (h : ∀ b, b ≠ a → g b = f b) : (l.map g).sum + f a = (l.map f).sum + g a := by
  induction l with
  | nil => cases ha
  | cons b t ih =>
    obtain ⟨hb, ht⟩ := List.nodup_cons.mp hl
    by_cases e : b = a
    · subst e
      have : t.map g = t.map f := List.map_congr_left fun c hc => h c fun e => hb (e ▸ hc)
      simp only [List.map_cons, List.sum_cons, this]; omega
    · have := ih ht ((List.mem_cons.mp ha).resolve_left fun e' => e e'.symm)
      simp only [List.map_cons, List.sum_cons, h b e]; omega

/-- ΣD after one reservation has changed (R65). -/
theorem sumDrive_set (v : Vector DriveRes 48) (d : DishNo) (r : DriveRes) :
    sumDrive (v.set d r) + v[d].level = sumDrive v + r.level := by
  have := sum_update (fun e : DishNo => v[e].level) (fun e : DishNo => (v.set d r)[e].level) d allDishes
    (List.nodup_finRange 48) (List.mem_finRange d) (fun e h => by simp only [getElem_set_other v d e r h])
  simpa [sumDrive] using this

/-- ΣM after one grant has changed (R65). -/
theorem sumMelt_set (v : Vector MeltGrant 48) (d : DishNo) (g : MeltGrant) :
    sumMelt (v.set d g) + v[d].reservation = sumMelt v + g.reservation := by
  have := sum_update (fun e : DishNo => v[e].reservation) (fun e : DishNo => (v.set d g)[e].reservation) d allDishes
    (List.nodup_finRange 48) (List.mem_finRange d) (fun e h => by simp only [getElem_set_other v d e g h])
  simpa [sumMelt] using this

/-! ### Conditions (R188) -/

/-- Raising a condition touches the conditions alone. -/
theorem raise_touches (c : Cond) (items : List Nat) (s : State) :
    raise c items s = { s with port := { s.port with conditions := (raise c items s).port.conditions } } := rfl

/-- What stands among the items once one more has been put in its place. -/
theorem mem_insertItem (n k : Nat) (l : List Nat) : n ∈ insertItem k l ↔ n = k ∨ n ∈ l := by
  induction l with
  | nil => simp [insertItem]
  | cons h t ih =>
    simp only [insertItem]
    split
    · simp
    · split
      · subst_vars; simp
      · simp only [List.mem_cons, ih]; tauto

/-- The items stay in rising number, each once. -/
theorem insertItem_rising (k : Nat) (l : List Nat) (h : l.Pairwise (· < ·)) : (insertItem k l).Pairwise (· < ·) := by
  induction l with
  | nil => simp [insertItem]
  | cons a t ih =>
    obtain ⟨ha, ht⟩ := List.pairwise_cons.mp h
    simp only [insertItem]
    split
    · rename_i hk
      exact List.pairwise_cons.mpr ⟨fun b hb => (List.mem_cons.mp hb).elim (· ▸ hk) fun hb => hk.trans (ha b hb), h⟩
    · split
      · exact h
      · refine List.pairwise_cons.mpr ⟨fun b hb => ?_, ih ht⟩
        rcases (mem_insertItem b k t).mp hb with rfl | hb
        · omega
        · exact ha b hb

/-! ### Postings (R165, R167) -/

/-- A motion posting touches the bus records alone. -/
theorem postMotion_touches (d : DishNo) (o : Order) (s : State) : postMotion d o s = { s with bus := (postMotion d o s).bus } := by
  unfold postMotion; split <;> rfl

/-- A heat posting touches the bus records alone. -/
theorem postHeat_touches (d : DishNo) (on : Bool) (s : State) : postHeat d on s = { s with bus := (postHeat d on s).bus } := by
  unfold postHeat; split <;> rfl

/-- A heat posting leaves the order lists and the links as they were. -/
theorem postHeat_orders (d e : DishNo) (on : Bool) (s : State) :
    (postHeat d on s).bus[e].orders = s.bus[e].orders ∧ (postHeat d on s).bus[e].link = s.bus[e].link := by
  unfold postHeat
  split
  · by_cases h : e = d
    · subst h; simp only [State.modBus_same, and_self]
    · simp only [State.modBus_other _ _ _ _ h, and_self]
  · simp

/-! ### Drive reservations (R66) -/

/-- A change of kind keeps every level, and so ΣD. -/
theorem setKind_level (d e : DishNo) (k : ResKind) (s : State) : (setKind d k s).drive[e].level = s.drive[e].level := by
  unfold setKind
  by_cases h : e = d
  · subst h; rw [State.modDrive_same]; unfold DriveRes.withKind; split <;> simp_all
  · rw [State.modDrive_other _ _ _ _ h]

/-- A change of kind touches the drive reservations alone. -/
theorem setKind_touches (d : DishNo) (k : ResKind) (s : State) : setKind d k s = { s with drive := (setKind d k s).drive } := rfl

/-- A release leaves nothing reserved, and makes a serve due where the level was above 0. -/
theorem releaseDrive_eq (d : DishNo) (s : State) :
    releaseDrive d s = { s with
      drive := s.drive.set d ⟨0, none⟩
      serveDue := if s.drive[d].level = 0 then s.serveDue else true } := by
  unfold releaseDrive; split <;> rfl

/-- A grant writes the one reservation. -/
theorem grantDrive_eq (d : DishNo) (k : ResKind) (level : Nat) (s : State) :
    grantDrive d k level s = { s with drive := s.drive.set d (if level = 0 then ⟨0, none⟩ else ⟨level, some k⟩) } := rfl

/-! ### Heater windows and shedding (R71, R72, R135, R136) -/

/-- Opening a window touches the circuits and the bus records alone. -/
theorem openWindow_touches (d : DishNo) (s : State) :
    openWindow d s = { s with circuits := (openWindow d s).circuits, bus := (openWindow d s).bus } := by
  unfold openWindow; rw [postHeat_touches]; rfl

/-- Closing a window touches the circuits and the bus records alone. -/
theorem closeWindow_touches (d : DishNo) (s : State) :
    closeWindow d s = { s with circuits := (closeWindow d s).circuits, bus := (closeWindow d s).bus } := by
  unfold closeWindow
  simp only
  split
  · rw [openWindow_touches, postHeat_touches]; rfl
  · rw [postHeat_touches]; rfl

/-- Refitting a window touches the circuits and the bus records alone. -/
theorem refitWindow_touches (d : DishNo) (s : State) :
    refitWindow d s = { s with circuits := (refitWindow d s).circuits, bus := (refitWindow d s).bus } := by
  unfold refitWindow
  split
  · rfl
  · simp only
    split
    · rw [closeWindow_touches]
    · rfl

/-- Lowering a duty touches the grants, the circuits and the bus records alone, and of the grants the one duty. -/
theorem lowerDuty_touches (d : DishNo) (duty : Nat) (s : State) :
    lowerDuty d duty s = { s with
      grants := s.grants.set d { s.grants[d] with duty := duty }
      circuits := (lowerDuty d duty s).circuits, bus := (lowerDuty d duty s).bus } := by
  unfold lowerDuty; rw [refitWindow_touches]; rfl

/-- The duty that a lowering leaves. -/
@[simp] theorem lowerDuty_grants (d : DishNo) (duty : Nat) (s : State) :
    (lowerDuty d duty s).grants = s.grants.set d { s.grants[d] with duty := duty } := by
  rw [lowerDuty_touches]

/-- Shedding touches the grants, the circuits and the bus records alone. -/
theorem shedLoop_touches (floor fuel need : Nat) (s : State) :
    shedLoop floor fuel need s = { s with
      grants := (shedLoop floor fuel need s).grants
      circuits := (shedLoop floor fuel need s).circuits, bus := (shedLoop floor fuel need s).bus } := by
  induction fuel generalizing need s with
  | zero => rfl
  | succ n ih =>
    simp only [shedLoop]
    split
    · rfl
    · split
      · rfl
      · rw [ih, lowerDuty_touches]

/-- Shedding touches the grants, the circuits and the bus records alone. -/
theorem shed_touches (floor need : Nat) (s : State) :
    shed floor need s = { s with
      grants := (shed floor need s).grants, circuits := (shed floor need s).circuits, bus := (shed floor need s).bus } :=
  shedLoop_touches floor _ need s

/-- A grant above its demand is lowered to it; a grant within it stays. -/
theorem lowerToDemand_grants (d : DishNo) (s : State) :
    (lowerToDemand d s).grants =
      if s.circuits[d].demand < s.grants[d].duty then s.grants.set d { s.grants[d] with duty := s.circuits[d].demand }
      else s.grants := by
  unfold lowerToDemand; split <;> simp

/-! ### Motion states (Chapter 1) -/

/-- A dish that leaves the stow queue changes nothing else; a head that leaves makes a serve due (R117). -/
theorem leaveQueue_eq (d : DishNo) (s : State) :
    leaveQueue d s = { s with
      stowQueue := s.stowQueue.filter (fun e => e ≠ d)
      serveDue := if s.stowQueue.head? = some d then true else s.serveDue } := by
  unfold leaveQueue; simp only; split <;> rfl

/-- A dish that joins the stow queue stands at its tail (R115). -/
theorem joinQueue_eq (d : DishNo) (s : State) :
    joinQueue d s = { s with
      dishes := s.dishes.set d { s.dishes[d] with motion := .stowQueued }
      stowQueue := s.stowQueue ++ [d], serveDue := true } := rfl

/-- Stopping a dish touches its record, its stow move, its reservation's kind and its order list alone (R11). -/
theorem goStopping_touches (d : DishNo) (keepGroup : Bool) (s : State) :
    goStopping d keepGroup s = { s with
      dishes := (goStopping d keepGroup s).dishes, stowMoves := (goStopping d keepGroup s).stowMoves
      drive := (goStopping d keepGroup s).drive, bus := (goStopping d keepGroup s).bus } := by
  unfold goStopping
  cases keepGroup <;> simp only [Bool.false_eq_true, if_true, if_false] <;> split <;>
    first | rfl | (rw [setKind_touches, postMotion_touches]; rfl)

/-- A dish already CUT keeps its first reason and all else (R13). -/
theorem goCut_of_cut (d : DishNo) (why : CutReason) (post : Bool) (s : State) (h : s.dishes[d].motion = .cut) :
    goCut d why post s = s := by
  unfold goCut; rw [if_pos h]

/-- A cut touches the dish table, the stow queue and moves, the drive reservations, the order lists and the conditions alone (R13). -/
theorem goCut_touches (d : DishNo) (why : CutReason) (post : Bool) (s : State) :
    goCut d why post s = { s with
      dishes := (goCut d why post s).dishes, stowQueue := (goCut d why post s).stowQueue
      serveDue := (goCut d why post s).serveDue, stowMoves := (goCut d why post s).stowMoves
      drive := (goCut d why post s).drive, bus := (goCut d why post s).bus, port := (goCut d why post s).port } := by
  unfold goCut
  split
  · rfl
  · simp only
    split <;> split <;> first | (rw [postMotion_touches, leaveQueue_eq]; rfl) | (rw [postMotion_touches]; rfl) |
      (rw [leaveQueue_eq]; rfl) | rfl

/-- The entry to UNREACHABLE touches the dish table, the stow queue and moves, and the drive reservations alone (R16). -/
theorem goUnreachable_touches (d : DishNo) (s : State) :
    goUnreachable d s = { s with
      dishes := (goUnreachable d s).dishes, stowQueue := (goUnreachable d s).stowQueue
      serveDue := (goUnreachable d s).serveDue, stowMoves := (goUnreachable d s).stowMoves
      drive := (goUnreachable d s).drive } := by
  unfold goUnreachable
  simp only
  split
  · rw [leaveQueue_eq]; rfl
  · rfl

/-- Judging a group touches the group table and the conditions alone (R53). -/
theorem judgeGroup_touches (g : GroupNo) (s : State) :
    judgeGroup g s = { s with groups := (judgeGroup g s).groups, port := (judgeGroup g s).port } := by
  unfold judgeGroup
  split
  · rfl
  · simp only
    split <;> rfl

/-! ### A refused reply (R171) -/

/-- A REFUSED reply touches the order list and the heat slot alone of a bus record. -/
theorem BusRecord.dropRefused_touches (x : InFlight) (cuts : Bool) (b : BusRecord) :
    b.dropRefused x cuts = { b with orders := (b.dropRefused x cuts).orders, heat := (b.dropRefused x cuts).heat } := by
  unfold BusRecord.dropRefused; split <;> rfl

/-- No motion order waits for a dish that a REFUSED reply cuts. -/
@[simp] theorem BusRecord.dropRefused_cuts (x : InFlight) (b : BusRecord) : (b.dropRefused x true).orders = [] := by
  unfold BusRecord.dropRefused; split <;> rfl

/-- A refused motion order empties the list in any case. -/
theorem BusRecord.dropRefused_motion (x : InFlight) (o : Order) (cuts : Bool) (b : BusRecord) (h : x.sent = .motion o) :
    (b.dropRefused x cuts).orders = [] := by
  unfold BusRecord.dropRefused; rw [h]

/-! ### The least value with a property (R27, R30) -/

/-- What bisection finds: a value with the property, and none below it has it. -/
theorem bisect_spec (p : Nat → Bool) (mono : ∀ a b, a ≤ b → p a = true → p b = true) (fuel lo hi : Nat) (hf : hi - lo ≤ fuel)
    (hlt : lo < hi) (hhi : p hi = true) (hlo : ∀ u, u ≤ lo → p u = false) :
    p (bisect p fuel lo hi) = true ∧ lo < bisect p fuel lo hi ∧ bisect p fuel lo hi ≤ hi ∧
      ∀ u, u < bisect p fuel lo hi → p u = false := by
  induction fuel generalizing lo hi with
  | zero => omega
  | succ n ih =>
    simp only [bisect]
    split
    · exact ⟨hhi, hlt, le_refl _, fun u hu => hlo u (by omega)⟩
    · split
      · rename_i hm
        obtain ⟨h1, h2, h3, h4⟩ := ih lo ((lo + hi) / 2) (by omega) (by omega) hm hlo
        exact ⟨h1, h2, by omega, h4⟩
      · rename_i hm
        have hm' : p ((lo + hi) / 2) = false := by simpa using hm
        obtain ⟨h1, h2, h3, h4⟩ := ih ((lo + hi) / 2) hi (by omega) (by omega) hhi (fun u hu => by
          cases hu' : p u with
          | false => rfl
          | true => rw [mono u _ hu hu'] at hm'; cases hm')
        exact ⟨h1, by omega, h3, h4⟩

/-! ### The stow queue (R116, R118) -/

/-- A stow move begins in the dish's record, its stow move record and its order list (R118). -/
theorem startStow_touches (d : DishNo) (s : State) :
    startStow d s = { s with
      dishes := (startStow d s).dishes, stowMoves := (startStow d s).stowMoves, bus := (startStow d s).bus } := by
  unfold startStow; rw [postMotion_touches]; rfl

/-- The serve of a head leaves the queue itself, the groups, the cells, the tags and the port as they were. -/
theorem serveHead_touches (d : DishNo) (s : State) :
    serveHead d s = { s with
      dishes := (serveHead d s).dishes, drive := (serveHead d s).drive, grants := (serveHead d s).grants
      circuits := (serveHead d s).circuits, stowMoves := (serveHead d s).stowMoves, bus := (serveHead d s).bus } := by
  unfold serveHead shedForStow; rw [startStow_touches, grantDrive_eq, shed_touches]

/-- A serve leaves the groups, the cells, the tags, the scan, the settings and the port as they were. -/
theorem serveLoop_touches (fuel : Nat) (s : State) :
    serveLoop fuel s = { s with
      dishes := (serveLoop fuel s).dishes, drive := (serveLoop fuel s).drive, grants := (serveLoop fuel s).grants
      circuits := (serveLoop fuel s).circuits, stowQueue := (serveLoop fuel s).stowQueue
      stowMoves := (serveLoop fuel s).stowMoves, bus := (serveLoop fuel s).bus } := by
  induction fuel generalizing s with
  | zero => rfl
  | succ n ih =>
    simp only [serveLoop]
    split
    · rfl
    · split
      · rw [ih, serveHead_touches]; rfl
      · rfl

/-- A serve leaves the groups, the cells, the tags, the scan, the settings and the port as they were, and no serve due. -/
theorem serve_touches (s : State) :
    serve s = { s with
      dishes := (serve s).dishes, drive := (serve s).drive, grants := (serve s).grants, circuits := (serve s).circuits
      stowQueue := (serve s).stowQueue, stowMoves := (serve s).stowMoves, bus := (serve s).bus, serveDue := false } := by
  unfold serve; rw [serveLoop_touches]

/-! ### The melt lockout (R137, R147) -/

/-- A melt lockout leaves no demand, no duty and no window. -/
theorem meltLockout_leaves (d : DishNo) (s : State) :
    (meltLockout d s).grants = s.grants.set d { s.grants[d] with duty := 0 } ∧
    (meltLockout d s).circuits = s.circuits.set d { s.circuits[d] with demand := 0, window := none } := by
  unfold meltLockout
  simp only
  split
  · rw [postHeat_touches]; exact ⟨rfl, rfl⟩
  · rw [State.markServe_grants, State.markServe_circuits, postHeat_touches]; exact ⟨rfl, rfl⟩

/-! ### Requests (R183 to R187) -/

/-- The frame of a request that is taken, refused or bad touches the port alone. -/
theorem takeFrame_touches (r : Request) (s : State) : takeFrame r s = { s with port := (takeFrame r s).port } := by
  unfold takeFrame; split
  · rfl
  · split <;> rfl

/-- Whose turn it is, as the command reads it and as the statements say it. -/
theorem turnOf_iff (r : Request) (s : State) : s.turnOf r = true ↔ Turn r s := by
  unfold State.turnOf Turn
  cases s.port.running <;> simp

/-- A request whose turn it is: its run has begun, now or before. -/
theorem beginRequest_turn (r : Request) (s : State) (h : Turn r s) : beginRequest r s = .run (s.begun r) := by
  unfold beginRequest State.begun
  simp only [(turnOf_iff r s).mpr h, if_true]
  rcases h with h | ⟨h, hq⟩
  · simp [h]
  · simp [h, hq, startRun, State.modPort]

/-- Out of its turn a request command takes its request's frame, and runs it if its turn has then come (log entry 7). -/
theorem beginRequest_elsewhere (r : Request) (s : State) (h : ¬ Turn r s) :
    beginRequest r s = if (takeFrame r s).turnOf r then .run ((takeFrame r s).begun r) else .held (takeFrame r s) := by
  have h0 : s.turnOf r = false := by rw [← Bool.not_eq_true, turnOf_iff]; exact h
  have hb : beginRequest r s = if (takeFrame r s).turnOf r then
      .run (if (takeFrame r s).port.running.isSome then takeFrame r s else startRun (takeFrame r s)) else .held (takeFrame r s) := by
    unfold beginRequest; simp only [h0, Bool.false_eq_true, if_false]
  rw [hb]
  by_cases ht : (takeFrame r s).turnOf r = true
  · rw [if_pos ht, if_pos ht]
    rcases (turnOf_iff r _).mp ht with h | ⟨h, hq⟩
    · simp [h, State.begun]
    · simp [h, hq, State.begun, startRun, State.modPort]
  · rw [if_neg ht, if_neg ht]

/-- A request whose turn it is, with an allowed length: its run has begun, its body runs, and the run ends with its answer. -/
theorem runRequest_ready (r : Request) (body : State → Reckoned) (s : State) (h : Ready r s) :
    runRequest r body s = .next (endRequest r (body (s.begun r))) := by
  unfold runRequest
  simp only [beginRequest_turn r s h.1, h.2, if_true]

/-- A request whose turn it is and whose length its code does not allow answers BAD_VALUE and runs nothing. -/
theorem runRequest_illSized (r : Request) (body : State → Reckoned) (s : State) (h : Turn r s)
    (hn : (frameLengths r.code.toNat).contains (r.params.length + 4) = false) :
    runRequest r body s = .next (s.replied r .badValue []) := by
  unfold runRequest
  simp only [beginRequest_turn r s h, hn]
  rfl

/-- The beginning of a run touches the port alone. -/
theorem begun_touches (r : Request) (s : State) : s.begun r = { s with port := (s.begun r).port } := by
  unfold State.begun; split <;> rfl

/-- Once its run has begun the request runs. -/
@[simp] theorem begun_running (r : Request) (s : State) : (s.begun r).port.running = some r := by
  unfold State.begun; split
  · assumption
  · rfl

/-- The end of a run with an answer. -/
@[simp] theorem endRequest_answered (r : Request) (t : State) (st : Status) (results : List Byte) :
    endRequest r (t, some (st, results)) = t.ended r st results := rfl

/-- The end of a run without an answer (R185: an accepted SPOT READING). -/
@[simp] theorem endRequest_silent (r : Request) (t : State) :
    endRequest r (t, none) = t.modPort (fun p => { p with running := none }) := rfl

/-- A request command always goes on. -/
theorem runRequest_next (r : Request) (body : State → Reckoned) (s : State) : ∃ t, runRequest r body s = .next t := by
  unfold runRequest; split <;> exact ⟨_, rfl⟩

/-! ### The converter (R96) -/

@[simp] theorem Scan.takeUp_converter (c : Converter) (x : Scan) : (x.takeUp c).converter = c := rfl
@[simp] theorem Scan.takeUp_crossed (c : Converter) (x : Scan) : (x.takeUp c).crossed = false := rfl
@[simp] theorem Scan.takeUp_channels (c : Converter) (x : Scan) : (x.takeUp c).channels = x.channels := rfl
@[simp] theorem Scan.takeUp_mode (c : Converter) (x : Scan) : (x.takeUp c).mode = x.mode := rfl
@[simp] theorem Scan.takeUp_outRun (c : Converter) (x : Scan) : (x.takeUp c).outRun = x.outRun := rfl
@[simp] theorem Scan.takeUp_inRun (c : Converter) (x : Scan) : (x.takeUp c).inRun = x.inRun := rfl
@[simp] theorem Scan.takeUp_spot (c : Converter) (x : Scan) : (x.takeUp c).spot = x.spot := rfl
@[simp] theorem Scan.takeUp_lastEnd (c : Converter) (x : Scan) : (x.takeUp c).lastEnd = x.lastEnd := rfl
@[simp] theorem Scan.takeUp_round (c : Converter) (x : Scan) : (x.takeUp c).round = x.round := rfl
@[simp] theorem Scan.takeUp_lastStart (c : Converter) (x : Scan) : (x.takeUp c).lastStart = x.lastStart := rfl

/-- What the converter takes up leaves the records, the reference and the round as they are. -/
theorem Scan.goOn_touches (x : Scan) :
    x.goOn = { x with spot := x.goOn.spot, converter := x.goOn.converter, crossed := x.goOn.crossed } := by
  unfold Scan.goOn Scan.takeUp
  split
  · split <;> rfl
  · rfl

/-! ### What a step can do -/

/-- The beginning of a run touches the port alone. -/
theorem startRun_touches (s : State) : startRun s = { s with port := (startRun s).port } := rfl

/-- The passing of a centisecond touches the time bases, the counts that run, and the mark of a conversion that goes on. -/
theorem tick_touches (s : State) :
    tick s = { s with
      siteTime := s.siteTime + 1, arrayClock := s.arrayClock + 1, dishes := (tick s).dishes, cells := (tick s).cells
      scan := { s.scan with crossed := s.scan.converter != .idle }
      meltWeather := { s.meltWeather with linger := (tick s).meltWeather.linger } } := rfl

/-- Where nothing is due, no list of due commands holds one. -/
theorem dueCommands_nil {s : State} (h : dueCommands s = []) :
    dueRuns s = [] ∧ dueConversions s = [] ∧ dueRounds s = [] ∧ dueVisits s = [] ∧ dueWindows s = [] ∧ dueExpiries s = [] ∧
    dueEnds s = [] ∧ lateConversions s = [] := by
  simpa [dueCommands, and_assoc] using h

/-- The commands that end a conversion, by what the converter is at. -/
theorem conversionEnds_cases {s : State} {i : Instr} (h : i ∈ conversionEnds s) :
    (∃ r, s.scan.converter = .channel ∧ s.scan.round = some r ∧
      i = if r.chan = 15 then .scanRoundEnd (Config.sampled s.freeCount) else .conversionEnd (Config.sampled s.freeCount)) ∨
    ((s.scan.converter = .spot ∨ s.scan.converter = .dropped) ∧ i = .spotConversionEnd (Config.sampled s.freeCount)) := by
  unfold conversionEnds at h
  split at h
  · exact .inl ⟨_, ‹_›, ‹_›, by simpa using h⟩
  · exact .inr ⟨.inl ‹_›, by simpa using h⟩
  · exact .inr ⟨.inr ‹_›, by simpa using h⟩
  · simp at h

/-- A step runs the front command; or, with none waiting, a run begins, the first due command is taken, or a centisecond passes. -/
theorem step_cases {s t : State} (h : step s = .next t) :
    (∃ i rest, s.pending = i :: rest ∧ exec i { s with pending := rest } = .next t) ∨
    (s.pending = [] ∧ runStartDue s = true ∧ t = startRun (spendFree s)) ∨
    (s.pending = [] ∧ runStartDue s = false ∧ ∃ i rest, dueCommands s = i :: rest ∧ exec i (spendFree s) = .next t) ∨
    (s.pending = [] ∧ runStartDue s = false ∧ dueCommands s = [] ∧ t = tick (spendFree s)) := by
  unfold step at h
  split at h
  · exact .inl ⟨_, _, ‹_›, h⟩
  · unfold advance at h
    split at h
    · cases h; exact .inr (.inl ⟨‹_›, ‹_›, rfl⟩)
    · have hr : runStartDue s = false := by simpa using ‹¬ runStartDue s = true›
      split at h
      · exact .inr (.inr (.inl ⟨‹_›, hr, _, _, ‹_›, h⟩))
      · cases h; exact .inr (.inr (.inr ⟨‹_›, hr, ‹_›, rfl⟩))

end Machine
end Sys2Proof
end

