-- ==== Sys2Proof/WellFormed.lean ====
section
/-! DEFINITION. Which command terms stand for something that can reach the part: a request frame has at most 64 bytes (TABLE
11.1), UNKNOWN_REQUEST carries a code that TABLE 11.4 lacks, and a reply window of 600 µs holds at most 13 characters of 44 µs. -/

namespace Sys2Proof

/-- Parameter bytes of a frame of at most 64 bytes: 64 less length, code, label and check (TABLE 11.1). -/
def paramsFit (params : List Byte) : Bool := params.length ≤ 60

/-- The checks of a command term. -/
def Instr.wellFormed : Instr → Bool
  | .unknownRequest code _ params => !knownCode code && paramsFit params
  | .transactionEnd _ chars _ => chars.length ≤ 13
  | i =>
    match requestOf i with
    | some r => paramsFit r.params
    | none => true

end Sys2Proof
end

