-- ==== Sys2Proof/Tests/Slice0.lean ====
section
/-! SUPPORT. The model's own tests. First the well-formedness smoke and the request codes of TABLE 11.4; then, command by command, one
step on a small site with the values that the manual's rules give by hand; then a witness for the hypotheses of every statement that
has some. -/

namespace Sys2Proof
namespace Machine
namespace Slice0

set_option Elab.async false

/-! ### A small site -/

/-- The state a command answers. -/
def after (s : State) (i : Instr) : State :=
  match exec i s with
  | .next t => t
  | _ => s

/-- A state with one request waiting and none running. -/
def asked (r : Request) (s : State) : State := s.modPort (fun p => { p with queue := [r], running := none })

/-- A state in which the run of a request is under way. -/
def runningOf (r : Request) (s : State) : State := startRun (asked r s)

/-- The state after the run of a request. -/
def ran (r : Request) (s : State) : State := after (asked r s) (commandOf r)

/-- The last answer of a state: its status and results. -/
def lastAnswer (s : State) : Option (Status × List Byte) := s.port.answers.getLast?.map (fun a => (a.status, a.results))

/-- Where an idle dish points, with each axis reporting a state. -/
def seen (az el : Int) (a e : AxisState) : Observed := ⟨⟨az, el⟩, a, e, .none, false⟩

/-- A site at 3 003 cs with feed 1 000 and dish 0 present, ACTIVE and FREE, still at azimuth 0 and elevation 45 000. Its drive power is
100 and its melt power 64. -/
def site : State :=
  (({ State.reset with siteTime := 3003, arrayClock := 70 }.modFeed (fun f => { f with capacity := 1000 })).modDish 0 (fun r =>
    { r with
      present := true, motion := .free, desc := { r.desc with pDrive := 100, pMelt := 64 }
      observed := some (seen 0 45000 .still .still) })).modBus 0 (fun b => { b with link := .active })

/-- A member entry of dish 0. -/
def entry (sub : SubState) : Member := ⟨0, none, sub, false, none, none, none, none, none⟩

/-- The site with dish 0 MEMBER of group 2, which waits to slew it by 30 000 mdeg in azimuth. -/
def grouped : State :=
  (site.modDish 0 (fun r => { r with motion := .member, group := some 2 })).setGroup 2
    (some ⟨.opened, ⟨30000, 45000⟩, [entry .waiting], [], none, none, none, none⟩)

/-- The site with dish 0 slewing in group 2, its move begun at 3 000 and due by 4 450. -/
def slewing : State :=
  ((site.modDish 0 (fun r => { r with motion := .member, group := some 2, targets := some ⟨30000, 45000⟩ })).setGroup 2
    (some ⟨.moving, ⟨30000, 45000⟩,
      [{ entry .moving with targets := some ⟨30000, 45000⟩, start := some 3000, deadline := some 4450 }],
      [], some 60, some 1150, some 1450, some 3000⟩)).modDrive 0 (fun _ => ⟨100, some .slew⟩)

/-- The site with dish 0 in a motion state. -/
def within (m : MotionState) : State := site.modDish 0 (fun r => { r with motion := m })

/-- The site with cell 0 in STOW for FORCED. -/
def stowCell : State := site.modCell 0 (fun c => { c with state := .stow, reasons := { c.reasons with forced := true } })

/-- The site with dish 0 STOWING to 90 000, its move begun at 3 000 and due by 4 000. -/
def stowing : State :=
  ((stowCell.modDish 0 (fun r => { r with motion := .stowing })).setStowMove 0 (some ⟨700, 300, some 3000, some 4000⟩)).modDrive 0
    (fun _ => ⟨100, some .stow⟩)

/-- The site with dish 0's link LOST. -/
def lostLink : State := site.modBus 0 (fun b => { b with link := .lost, countdown := some 0 })

/-- A transaction with dish 0 under way since 3 000. -/
def busy (sent : Sent) (s : State) : State :=
  s.modBus 0 (fun b => { b with inFlight := some ⟨sent, [], 3000, false, false, false⟩ })

/-- A request that stands alone in the queue is ready when its length is allowed. -/
theorem asked_ready (r : Request) (s : State) (h : (frameLengths r.code.toNat).contains (r.params.length + 4) = true) :
    Ready r (asked r s) := ⟨.inr ⟨rfl, rfl⟩, h⟩

/-- So is one whose run is under way: the other case of every request statement. -/
theorem runningOf_ready (r : Request) (s : State) (h : (frameLengths r.code.toNat).contains (r.params.length + 4) = true) :
    Ready r (runningOf r s) := ⟨.inl rfl, h⟩

/-! ### Well-formed commands (TABLE 11.1, R161, R186) -/

/-- UNKNOWN_REQUEST with a code that TABLE 11.4 gives is refused; with 0x99 it is well-formed. -/
theorem test_wellFormed_unknown :
    (Instr.unknownRequest 0x31 5 []).wellFormed = false ∧ (Instr.unknownRequest 0x99 5 []).wellFormed = true := by decide

/-- 61 parameter bytes do not fit a frame of 64; 60 do. -/
theorem test_wellFormed_params :
    (Instr.setFeed 5 (List.replicate 61 0)).wellFormed = false ∧ (Instr.setFeed 5 (List.replicate 60 0)).wellFormed = true := by decide

/-- UNKNOWN_REQUEST is held to the same length. -/
theorem test_wellFormed_unknown_params : (Instr.unknownRequest 0x99 5 (List.replicate 61 0)).wellFormed = false := by decide

/-- Fourteen characters of 44 µs do not fit a reply window of 600 µs; thirteen do. -/
theorem test_wellFormed_chars :
    (Instr.transactionEnd 0 (List.replicate 14 0) false).wellFormed = false ∧
    (Instr.transactionEnd 0 (List.replicate 13 0) false).wellFormed = true := by decide

/-- A request runs as the command that its code names in TABLE 11.4. -/
theorem test_commandOf :
    commandOf ⟨0x10, 1, []⟩ = .describeDish 1 [] ∧ commandOf ⟨0x24, 1, [2]⟩ = .startGroup 1 [2] ∧
    commandOf ⟨0x38, 1, [3]⟩ = .spotReading 1 [3] ∧ commandOf ⟨0x72, 1, []⟩ = .resetCoordination 1 [] ∧
    commandOf ⟨0x73, 1, []⟩ = .unknownRequest 0x73 1 [] := by decide

/-- R193: the CRC's own examples. -/
theorem test_crc : crc [0x01] = 0x07 ∧ crc [0x31, 0x32, 0x33, 0x34, 0x35, 0x36, 0x37, 0x38, 0x39] = 0xF4 := by decide +kernel

/-! ### The port (Chapter 10) -/

/-- R179. -/
theorem test_powerOnReset :
    (after site .powerOnReset).siteTime = 0 ∧ (after site .powerOnReset).dishes[(0 : DishNo)].present = false := by decide +kernel

/-- R180, R181: one answer of 11 bytes waits: two units; the status byte is 4 slots (32) and the waiting bit (4). -/
theorem test_exchangeBegin :
    ((after (site.modPort (fun p => { p with answers := [⟨0x70, 9, .ok, [1, 2, 3, 4, 5]⟩] })) .exchangeBegin).port.exchange.map
      (fun x => (x.byteOut 0, x.byteOut 1))) = some (36, 2) := by decide +kernel

/-- R182, R183: a LOOK UP BUDGET frame is taken; cut short by a byte it is TRUNCATED. -/
theorem test_exchangeEnd :
    let s := after site .exchangeBegin
    (after s (.exchangeEnd (frameBytes ⟨0x31, 5, []⟩ ++ [0]))).port.queue = [⟨0x31, 5, []⟩] ∧
    (after s (.exchangeEnd (frameBytes ⟨0x31, 5, []⟩).dropLast)).port.lastFrame = .truncated := by decide +kernel

/-- R186: a code that names no request. -/
theorem test_unknownRequest : lastAnswer (ran ⟨0x99, 5, [1]⟩ site) = some (.unknownRequest, []) := by decide +kernel

/-- R184, R185: during a run the fourth request is taken behind three, and the run is counted among five outstanding; the status byte then
shows no slot free. -/
theorem test_takenDuringARun :
    let r : Request := ⟨0x31, 5, []⟩
    let s := after ((runningOf r site).modPort (fun p => { p with queue := [r, r, r] })) .exchangeBegin
    let t := after s (.exchangeEnd (frameBytes r))
    (t.port.lastFrame = .taken ∧ t.port.queue = [r, r, r, r] ∧ t.port.running = some r ∧ t.outstanding = 5) ∧
    ((after t .exchangeBegin).port.exchange.map (fun x => x.byteOut 0)) = some 0 := by decide +kernel

/-- R185: an empty command queue lets the run at the head begin; the request's command ends it with its answer. -/
theorem test_runBeginsAndEnds :
    let s := runningOf ⟨0x31, 5, []⟩ site
    step (asked ⟨0x31, 5, []⟩ site) = .next (spendFree s) ∧ s.port.queue = [] ∧
    (after s (.lookUpBudget 5 [])).port.running = none ∧ (after s (.lookUpBudget 5 [])).port.answers.length = 1 :=
  ⟨rfl, by decide +kernel⟩

/-- R189: the one condition set is reported with its item, then cleared. -/
theorem test_readConditions :
    let t := ran ⟨0x71, 5, []⟩ (raise .dishLost [7] site)
    lastAnswer t = some (.ok, [0, 0, 0, 0, 1, 1, 7, 0, 0, 0, 0, 0, 0, 0, 0, 0]) ∧ t.port.conditionPending = false := by decide +kernel

/-- R191: the groups go, and a moving member is stopped. -/
theorem test_resetCoordination :
    let t := ran ⟨0x72, 5, []⟩ slewing
    t.groups[(2 : GroupNo)] = none ∧ t.dishes[(0 : DishNo)].motion = .stopping := by decide +kernel

/-- R61: the answer carries the old clock 70 and the site time 3 003 (0x0BBB). -/
theorem test_setClock :
    let t := ran ⟨0x70, 5, [0, 0, 2, 1]⟩ site
    t.arrayClock = 513 ∧ lastAnswer t = some (.ok, [0, 0, 0, 70, 0, 0, 0x0B, 0xBB]) := by decide +kernel

/-! ### Dishes (Chapter 1) -/

/-- A description of dish 1 within TABLE 1.1, its stow elevation given. -/
def describe1 : DescribeArgs := ⟨1, 1, some ⟨2, 3, -270000, 270000, 5000, 90000, 3000, 2000, 2000, 2000, 250, 150, some 90000⟩⟩

/-- R2, R176: a dish made present has a LOST link with probe countdown 1. -/
theorem test_describeDish :
    let t := ran ⟨0x10, 5, describeParams describe1⟩ site
    lastAnswer t = some (.ok, []) ∧ t.dishes[(1 : DishNo)].present = true ∧ t.bus[(1 : DishNo)].countdown = some 1 := by
  decide +kernel

/-- TABLE 11.4, R2: the frame of 30 bytes leaves the stow elevation out, which is then 90 000. -/
theorem test_describeDish_without_stow :
    let ps := describeParams { describe1 with fields := describe1.fields.map (fun f => { f with stowEl := none }) }
    let t := ran ⟨0x10, 5, ps⟩ site
    ps.length + 4 = 30 ∧ lastAnswer t = some (.ok, []) ∧ t.dishes[(1 : DishNo)].desc.stowEl = 90000 := by decide +kernel

/-- R2: a FREE dish is not described again. -/
theorem test_describeDish_busy : lastAnswer (ran ⟨0x10, 5, [0, 0]⟩ site) = some (.dishBusy, []) := by decide +kernel

/-- R7. -/
theorem test_resumeDish : (ran ⟨0x11, 5, [0]⟩ (within .restrained)).dishes[(0 : DishNo)].motion = .free := by decide +kernel

/-- R8. -/
theorem test_restrainDish : (ran ⟨0x12, 5, [0]⟩ (within .locked)).dishes[(0 : DishNo)].motion = .restrained := by decide +kernel

/-- R20, TABLE 1.1: the answer begins with the present field, the cell and the zone. -/
theorem test_lookUpDish :
    ((lastAnswer (ran ⟨0x13, 5, [0]⟩ site)).map (fun a => (a.1, a.2.take 3))) = some (.ok, [1, 0, 0]) := by decide +kernel

/-- The site with dish 0 UNREACHABLE and 100 retained. -/
def retained : State := (within .unreachable).modDrive 0 (fun _ => ⟨100, some .retained⟩)

/-- R17. -/
theorem test_writeOffDish :
    let t := ran ⟨0x14, 5, [0]⟩ retained
    t.drive[(0 : DishNo)] = ⟨0, none⟩ ∧ t.dishes[(0 : DishNo)].motion = .unreachable := by decide +kernel

/-! ### Groups (Chapters 2 and 3) -/

/-- R40. -/
theorem test_openGroup :
    (ran ⟨0x20, 5, targetParams ⟨7, 359999, 5000⟩⟩ site).groups[(7 : GroupNo)] =
      some ⟨.opened, ⟨359999, 5000⟩, [], [], none, none, none, none⟩ := by decide +kernel

/-- R41. -/
theorem test_addMember :
    let t := ran ⟨0x21, 5, addParams ⟨2, 0, some ⟨10000, -10000⟩⟩⟩
      (site.setGroup 2 (some ⟨.opened, ⟨0, 45000⟩, [], [], none, none, none, none⟩))
    t.dishes[(0 : DishNo)].motion = .member ∧
    (t.groups[(2 : GroupNo)].map Group.members) = some [{ entry .waiting with offsets := some ⟨10000, -10000⟩ }] := by decide +kernel

/-- R42. -/
theorem test_dropMember :
    let t := ran ⟨0x22, 5, [2, 0]⟩ grouped
    t.dishes[(0 : DishNo)].motion = .free ∧ (t.groups[(2 : GroupNo)].map Group.members) = some [] := by decide +kernel

/-- R43. -/
theorem test_aimGroup :
    ((ran ⟨0x23, 5, targetParams ⟨2, 1, 90000⟩⟩ grouped).groups[(2 : GroupNo)].map Group.target) = some ⟨1, 90000⟩ := by decide +kernel

/-- R27, R36, R45: 30 000 mdeg at 3 000 mdeg/s and 2 000 mdeg/s² take 10 s and 1.5 s: 1 150 cs, and 1 450 with the margin of 300. -/
theorem test_startGroup :
    lastAnswer (ran ⟨0x24, 5, [2]⟩ grouped) = some (.ok, [0, 0, 0x04, 0x7E, 0, 0, 0x05, 0xAA, 0, 0]) := by decide +kernel

/-- R30, R45: with less power than the servo floor 25 the answer is POWER_SHORT with both figures. -/
theorem test_startGroup_short :
    lastAnswer (ran ⟨0x24, 5, [2]⟩ (grouped.modFeed (fun f => { f with capacity := 24 }))) =
      some (.powerShort, [0, 25, 0, 24]) := by decide +kernel

/-- R57. -/
theorem test_haltGroup :
    let t := ran ⟨0x25, 5, [2]⟩ slewing
    (t.groups[(2 : GroupNo)].map Group.state) = some .halting ∧ t.bus[(0 : DishNo)].orders = [.hold] := by decide +kernel

/-- R58. -/
theorem test_disbandGroup :
    let t := ran ⟨0x26, 5, [2]⟩ grouped
    t.groups[(2 : GroupNo)] = none ∧ t.dishes[(0 : DishNo)].motion = .free := by decide +kernel

/-- R59. -/
theorem test_lookUpGroup : lastAnswer (ran ⟨0x27, 5, [1]⟩ grouped) = some (.noSuch, []) := by decide +kernel

/-- R51: at its deadline a member is cut and removed, and the group ends. -/
theorem test_memberDeadlineExpiry :
    let t := after { slewing with siteTime := 4450 } (.memberDeadlineExpiry 0)
    t.dishes[(0 : DishNo)].motion = .cut ∧ t.bus[(0 : DishNo)].orders = [.cut] ∧
    (t.groups[(2 : GroupNo)].map Group.state) = some .partially := by decide +kernel

/-! ### Power (Chapter 4) -/

/-- R80: 4 001 is taken as 4 000 with the mark. -/
theorem test_setFeed : lastAnswer (ran ⟨0x30, 5, [0x0F, 0xA1]⟩ site) = some (.ok, [0x0F, 0xA0, 1, 0, 0]) := by decide +kernel

/-- R80: a capacity below ΣD is refused with ΣD. -/
theorem test_setFeed_short : lastAnswer (ran ⟨0x30, 5, [0, 99]⟩ slewing) = some (.powerShort, [0, 100]) := by decide +kernel

/-- R84: the answer begins with the capacity. -/
theorem test_lookUpBudget :
    ((lastAnswer (ran ⟨0x31, 5, []⟩ site)).map (fun a => (a.1, a.2.take 2))) = some (.ok, [0x03, 0xE8]) := by decide +kernel

/-! ### The scan (Chapter 5) -/

/-- A round that has reached a channel, with the converter on it. -/
def scanning (k : ChanNo) : State :=
  { site with siteTime := 3000 }.modScan (fun x =>
    { x with converter := .channel, round := some ⟨3000, k, Vector.replicate 16 0⟩, lastStart := some 3000 })

/-- R95, R97: an accepted spot on an idle converter has no answer and converts. -/
theorem test_spotReading :
    let t := ran ⟨0x38, 5, [3]⟩ site
    t.scan.spot = some ⟨5, 3, true⟩ ∧ t.port.answers = [] := by decide +kernel

/-- R99: the answer ends with the site time. -/
theorem test_lookUpChannels :
    ((lastAnswer (ran ⟨0x39, 5, []⟩ site)).map (fun a => (a.1, a.2.reverse.take 2))) = some (.ok, [0xBB, 0x0B]) := by decide +kernel

/-- R85: a round begins at a multiple of 25, once. -/
theorem test_scanRoundStart :
    (after { site with siteTime := 3025 } .scanRoundStart).scan.lastStart = some 3025 ∧
    (after site .scanRoundStart).scan.round = none := by decide +kernel

/-- R85: the channels are converted in rising order. -/
theorem test_conversionEnd : ((after (scanning 14) (.conversionEnd 9)).scan.round.map Round.chan) = some 15 := by decide +kernel

/-- R88: a reference of 1 000 lies outside its window: the third such round in a row would turn the mode to FAULT, the first does not. -/
theorem test_scanRoundEnd :
    let t := after ((scanning 15).modScan (fun x => { x with outRun := 2 })) (.scanRoundEnd 1000)
    t.scan.mode = .fault ∧ (after (scanning 15) (.scanRoundEnd 1000)).scan.mode = .normal := by decide +kernel

/-- R97: a spot's answer carries its channel and raw value. -/
theorem test_spotConversionEnd :
    let t := after (site.modScan (fun x => { x with converter := .spot, spot := some ⟨5, 3, true⟩ })) (.spotConversionEnd 258)
    t.scan.spot = none ∧ ((lastAnswer t).map (fun a => (a.1, a.2.take 3))) = some (.ok, [3, 1, 2]) := by decide +kernel

/-! ### Wind and stow (Chapter 6) -/

/-- R107: a mean at the new stow limit adds WIND. -/
theorem test_setWindLimits :
    let t := ran ⟨0x40, 5, windParams ⟨0, ⟨120, 180, 250, 140, 1000⟩⟩⟩ (site.modCell 0 (fun c => { c with mean := 180 }))
    t.cells[(0 : CellNo)].state = .stow ∧ t.cells[(0 : CellNo)].holdDown = some 1000 := by decide +kernel

/-- R108, R113: dish 0 of the cell is queued and served at once. -/
theorem test_forceStow :
    let t := ran ⟨0x42, 5, [0]⟩ site
    t.dishes[(0 : DishNo)].motion = .stowing ∧ t.drive[(0 : DishNo)] = ⟨100, some .stow⟩ := by decide +kernel

/-- R109. -/
theorem test_releaseStow :
    lastAnswer (ran ⟨0x43, 5, [0]⟩ stowCell) = some (.ok, [0, 0]) ∧
    lastAnswer (ran ⟨0x43, 5, [0]⟩ site) = some (.notStowed, []) := by decide +kernel

/-- R112. -/
theorem test_setSiteCode :
    (ran ⟨0x44, 5, [0x12, 0x34]⟩ site).detector = .sync 0 ∧ (ran ⟨0x44, 5, [0xFF, 0xFF]⟩ site).detector = .disabled := by decide +kernel

/-- R125, TABLE 6.1: the answer begins with the mean in 0.1 m/s. -/
theorem test_lookUpCell :
    ((lastAnswer (ran ⟨0x41, 5, [7]⟩ (site.modCell 7 (fun c => { c with mean := 258 })))).map (fun a => (a.1, a.2.take 2))) =
      some (.ok, [1, 2]) := by decide +kernel

/-- R120. -/
theorem test_stowDeadlineExpiry :
    (after { stowing with siteTime := 4000 } (.stowDeadlineExpiry 0)).dishes[(0 : DishNo)].cutReason = some .overrun ∧
    (after stowing (.stowDeadlineExpiry 0)).dishes[(0 : DishNo)].motion = .stowing := by decide +kernel

/-- R105. -/
theorem test_holdDownExpiry :
    let t := after (site.modCell 0 (fun c => { c with
      state := .stow, reasons := { c.reasons with wind := true }, holdDown := some 0 })) (.holdDownExpiry 0)
    t.cells[(0 : CellNo)].state = .calm ∧ t.cells[(0 : CellNo)].holdDown = none := by decide +kernel

/-- R110, R111: the sixth FF completes the sync, and the last byte of the eighth code forces every cell to STOW. -/
theorem test_weatherByte :
    (after { site with detector := .sync 5 } (.weatherByte 0xFF true)).detector = .sync 6 ∧
    (after { site with detector := .code 15, siteCode := 0x1234 } (.weatherByte 0x34 true)).cells[(7 : CellNo)].state = .stow := by
  decide +kernel

/-! ### Melting (Chapter 7) -/

/-- The site at 3 200 cs, with dish 0 FORCED at duty 8. -/
def heating : State := { site.modCircuit 0 (fun c => { c with mode := .forced, forcedDuty := 8, demand := 8 }) with siteTime := 3200 }

/-- R133: 17 is taken as 16 with the mark; the demand is 16 and nothing is granted yet. -/
theorem test_setMeltMode : lastAnswer (ran ⟨0x50, 5, [0, 2, 17]⟩ site) = some (.ok, [2, 16, 1, 16, 0]) := by decide +kernel

/-- R127: the answer holds the six settings replaced: 4, 240, 180 000, 300, 20, 30 000. -/
theorem test_setMeltLimits :
    let t := ran ⟨0x51, 5, limitsParams ⟨8, ⟨16, 1000, 0, 1, 5000⟩⟩⟩ site
    t.settings = ⟨16, 1000, 0, 1, 5000⟩ ∧
    lastAnswer t = some (.ok, [4, 0, 240, 0x02, 0xBF, 0x20, 0x01, 0x2C, 0, 20, 0x00, 0x75, 0x30]) := by decide +kernel

/-- R142. -/
theorem test_lookUpMelt : ((lastAnswer (ran ⟨0x52, 5, [0]⟩ site)).map (fun a => a.1)) = some .ok := by decide +kernel

/-- R134, R76 to R78: 64 × 8 / 16 = 32 fits, and the whole demand is granted. -/
theorem test_heaterBoundary :
    let t := after heating .heaterBoundary
    t.grants[(0 : DishNo)] = ⟨8, 64⟩ ∧ t.meltWeather.lastBoundary = some 3200 ∧ (t.ownDue 0) = true := by decide +kernel

/-- R139: a period of demand 8 and grant 0 adds 8 to the arrears. -/
theorem test_heaterBoundary_arrears : (after heating .heaterBoundary).circuits[(0 : DishNo)].arrears = 8 := by decide +kernel

/-- R135: a duty of 8 sixteenths opens for 800 cs. -/
theorem test_windowOpen :
    let t := after (after heating .heaterBoundary) (.windowOpen 0)
    t.circuits[(0 : DishNo)].window = some ⟨3200, 4000, .own⟩ ∧ t.bus[(0 : DishNo)].heat = some true := by decide +kernel

/-- R135: at its closing instant the window closes with HEAT OFF. -/
theorem test_windowClose :
    let t := after { after (after heating .heaterBoundary) (.windowOpen 0) with siteTime := 4000 } (.windowClose 0)
    t.circuits[(0 : DishNo)].window = none ∧ t.bus[(0 : DishNo)].heat = some false := by decide +kernel

/-- R130. -/
theorem test_lingerExpiry :
    (after (site.modWeather (fun w => { w with on := true, linger := some 0 })) .lingerExpiry).meltWeather.on = false ∧
    (after (site.modWeather (fun w => { w with on := true, linger := some 1 })) .lingerExpiry).meltWeather.on = true := by decide +kernel

/-! ### Tags (Chapter 8) -/

/-- The site with a MOTION tag of holder 258 on dish 0, which is LOCKED. -/
def tagged : State := (within .locked).setTag 0 (some ⟨258, 0, .motion, .held, 60⟩)

/-- R145, R146: a FREE dish becomes LOCKED, in the lowest empty slot. -/
theorem test_placeTag :
    let t := ran ⟨0x60, 5, placeParams ⟨258, 0, 2⟩⟩ site
    t.dishes[(0 : DishNo)].motion = .locked ∧ (t.tags[(0 : TagNo)].map Tag.holder) = some 258 := by decide +kernel

/-- R145: a tag of the same holder whose scope overlaps. -/
theorem test_placeTag_twice : lastAnswer (ran ⟨0x60, 5, placeParams ⟨258, 0, 4⟩⟩ tagged) = some (.duplicateTag, []) := by decide +kernel

/-- R152, R153: the dish is settled. -/
theorem test_releaseTag :
    let t := ran ⟨0x61, 5, releaseParams ⟨0, 258⟩⟩ tagged
    t.tags[(0 : TagNo)] = none ∧ t.dishes[(0 : DishNo)].motion = .free := by decide +kernel

/-- R157. -/
theorem test_lookUpTag :
    ((lastAnswer (ran ⟨0x62, 5, [0]⟩ tagged)).map (fun a => (a.1, a.2.take 5))) = some (.ok, [0, 1, 2, 0, 2]) := by decide +kernel

/-- R158: one tag is listed, and 63 slots are empty. -/
theorem test_listTags :
    ((lastAnswer (ran ⟨0x63, 5, [0]⟩ tagged)).map (fun a => (a.1, a.2.take 1, a.2.getLast?))) = some (.ok, [1], some 63) := by decide +kernel

/-! ### The drive bus (Chapter 9) -/

/-- A site whose segment 0 is in the round that began at 3 000. -/
def polling (s : State) : State := s.modEngine 0 (fun _ => ⟨some 3000, 0⟩)

/-- R163: a round begins at a multiple of 10, and counts a LOST dish down. -/
theorem test_pollRoundStart :
    let t := after { lostLink.modBus 0 (fun b => { b with countdown := some 20 }) with siteTime := 3010 } (.pollRoundStart 0)
    t.engines[(0 : SegNo)] = ⟨some 3010, 0⟩ ∧ t.bus[(0 : DishNo)].countdown = some 19 := by decide +kernel

/-- R163: no round begins before every visit of the round before it has been made. -/
theorem test_pollRoundStart_early :
    (after { polling site with siteTime := 3010 } (.pollRoundStart 0)).engines[(0 : SegNo)] = ⟨some 3000, 0⟩ := by decide +kernel

/-- R164, R195: a dish with nothing to send is sent STATUS: address character 0x100 and order code 0x06 first. -/
theorem test_visit :
    ((after (polling site) (.visit 0)).bus[(0 : DishNo)].inFlight.map (fun x => (x.sent, x.chars.take 2))) =
      some (.status, [0x100, 0x06]) := by decide +kernel

/-- R174. -/
theorem test_presenceProbe :
    ((after (polling lostLink) (.presenceProbe 0)).bus[(0 : DishNo)].inFlight.map InFlight.sent) = some .probe := by decide +kernel

/-- R3, R170: a good reply overwrites the observed status and counts. -/
theorem test_transactionEnd :
    let t := after (busy .status site) (.transactionEnd 0 ((replyBytes 0 ⟨false, seen 7 8 .moving .still⟩).map dataChar) false)
    t.dishes[(0 : DishNo)].observed = some (seen 7 8 .moving .still) ∧ t.bus[(0 : DishNo)].goodCount = 1 := by decide +kernel

/-- R146, R171: a refused heat order cuts a FREE dish, and no motion order waits for it. -/
theorem test_transactionEnd_refused :
    let t := after ((busy (.heat true) site).modBus 0 (fun b => { b with orders := [.hold] }))
      (.transactionEnd 0 ((replyBytes 0 ⟨true, seen 0 45000 .still .still⟩).map dataChar) false)
    t.dishes[(0 : DishNo)].motion = .cut ∧ t.bus[(0 : DishNo)].orders = [] := by decide +kernel

/-- R169, R172: silence is NO_ECHO, and the fifth failure in a row loses the link. -/
theorem test_transactionEnd_lost :
    let t := after ((busy .status site).modBus 0 (fun b => { b with failures := 4 })) (.transactionEnd 0 [] false)
    t.bus[(0 : DishNo)].lastStage = some .noEcho ∧ t.bus[(0 : DishNo)].link = .lost ∧
    t.dishes[(0 : DishNo)].motion = .unreachable := by decide +kernel

/-- The site with dish 0 CUT and a quiet time left. -/
def cutWith (quiet : Option Nat) : State := (within .cut).modDish 0 (fun r => { r with quiet := quiet, cutReason := some .overrun })

/-- R14. -/
theorem test_quietTimeEnd :
    (after (cutWith (some 0)) (.quietTimeEnd 0)).dishes[(0 : DishNo)].motion = .free ∧
    (after (cutWith (some 1)) (.quietTimeEnd 0)).dishes[(0 : DishNo)].motion = .cut := by decide +kernel

/-! ### Witnesses: every statement with hypotheses has a concrete state and operands that meet them, clause by clause -/

/-- StepRunsFrontCommand has no hypothesis; this is one of its steps. -/
theorem witness_StepRunsFrontCommand : step { site with pending := [.exchangeBegin] } = exec .exchangeBegin { site with pending := [] } := rfl

/-- The site at 3 200 cs, where a boundary and every round have just begun, with no dish to visit. -/
def rested : State :=
  { (site.modWeather (fun w => { w with lastBoundary := some 3200 })).modScan (fun x => { x with lastStart := some 3200 }) with
    siteTime := 3200, engines := Vector.replicate 4 ⟨some 3200, 12⟩ }

/-- EmptyQueueTakesDueEventOrPassesTime: a request that waits; one that runs; after reset the heater boundary is due; at 3 003 cs, in the last
centisecond of a poll round and right after every round has begun nothing is. -/
theorem witness_EmptyQueue :
    ((asked ⟨0x31, 5, []⟩ site).pending = [] ∧ (asked ⟨0x31, 5, []⟩ site).port.running = none ∧
      (asked ⟨0x31, 5, []⟩ site).port.queue = [⟨0x31, 5, []⟩]) ∧
    ((runningOf ⟨0x31, 5, []⟩ site).pending = [] ∧ (runningOf ⟨0x31, 5, []⟩ site).port.running = some ⟨0x31, 5, []⟩) ∧
    (State.reset.pending = [] ∧ State.reset.port.queue = [] ∧ (dueCommands State.reset).head? = some .heaterBoundary) ∧
    (site.pending = [] ∧ site.port.queue = [] ∧ dueCommands site = []) ∧
    (dueCommands { site with siteTime := 3009 } = [] ∧ 3009 % 10 = 9) ∧
    (dueCommands rested = [] ∧ rested.siteTime % 1600 = 0 ∧ rested.siteTime % 25 = 0 ∧ rested.siteTime % 10 = 0) := by decide +kernel

/-- ExchangeBeginTakesSnapshot: NSEL low already; NSEL high, without an answer and with one. -/
theorem witness_ExchangeBegin :
    (after site .exchangeBegin).port.exchange.isSome = true ∧ (site.port.exchange = none ∧ site.port.answers = []) ∧
    ((ran ⟨0x31, 5, []⟩ site).port.exchange = none ∧ (ran ⟨0x31, 5, []⟩ site).port.answers.length = 1) := by decide +kernel

/-- ExchangeEndDeliversThenJudgesTheFrame: without an exchange and with one. -/
theorem witness_ExchangeEnd : site.port.exchange = none ∧ (after site .exchangeBegin).port.exchange = some ⟨32, none, false⟩ := by
  decide +kernel

/-- UnknownOrIllSizedRequestsChangeNothing: an unknown code, an ill-sized frame, a known code; waiting and running. -/
theorem witness_UnknownOrIllSized :
    (Turn ⟨0x99, 5, [1]⟩ (asked ⟨0x99, 5, [1]⟩ site) ∧ knownCode 0x99 = false) ∧
    (Turn ⟨0x31, 5, [1]⟩ (runningOf ⟨0x31, 5, [1]⟩ site) ∧ knownCode 0x31 = true ∧ 5 ∉ frameLengths 0x31) ∧
    (Turn ⟨0x31, 5, []⟩ (asked ⟨0x31, 5, []⟩ site) ∧ knownCode 0x31 = true) := by
  refine ⟨⟨.inr ⟨rfl, rfl⟩, by decide⟩, ⟨.inl rfl, by decide⟩, .inr ⟨rfl, rfl⟩, by decide⟩

/-- RequestElsewhereIsTakenFirst: an empty port; another request at its head; another one running; and a full port. -/
theorem witness_RequestElsewhere :
    let r : Request := ⟨0x31, 5, []⟩
    let o : Request := ⟨0x39, 5, []⟩
    let full := site.modPort (fun p => { p with answers := List.replicate 8 ⟨0x31, 5, .ok, []⟩ })
    (site.turnOf r = false ∧ (takeFrame r site).turnOf r = true) ∧
    ((asked o site).turnOf r = false ∧ (takeFrame r (asked o site)).turnOf r = false) ∧
    ((runningOf o site).turnOf r = false ∧ (takeFrame r (runningOf o site)).port.queue = [r]) ∧
    (full.turnOf r = false ∧ (takeFrame r full).port.lastFrame = .refusedFull) := by decide +kernel

/-- DescribeDishChecksInOrder: a ready request, at the edges of TABLE 1.1. -/
theorem witness_DescribeDish :
    Ready ⟨0x10, 5, describeParams describe1⟩ (asked ⟨0x10, 5, describeParams describe1⟩ site) ∧
    describeWish describe1 =
      some (some ⟨2, 3, ⟨-270000, 270000, 3000, 2000⟩, ⟨5000, 90000, 2000, 2000⟩, 250, 150, 90000⟩) ∧
    describe1.fields.isSome = true ∧ describeWish ⟨1, 0, none⟩ = some none :=
  ⟨asked_ready _ _ (by decide +kernel), by decide +kernel⟩

/-- DescribeDishChecksInOrder: a dish made not present while a transaction of it is under way. -/
theorem witness_DescribeDish_absent :
    (describeAbsent 0 (busy .status site)).bus[(0 : DishNo)].inFlight = some ⟨.status, [], 3000, false, false, true⟩ := by decide +kernel

/-- ResumeAndWriteOffDish. -/
theorem witness_ResumeAndWriteOff :
    Ready ⟨0x11, 5, [0]⟩ (asked ⟨0x11, 5, [0]⟩ (within .restrained)) ∧
    (Ready ⟨0x14, 5, [0]⟩ (asked ⟨0x14, 5, [0]⟩ retained) ∧ (asked ⟨0x14, 5, [0]⟩ retained).serveDue = false) :=
  ⟨asked_ready _ _ rfl, asked_ready _ _ rfl, rfl⟩

/-- RestrainDishTakesAStillDishOutOfUse: a LOCKED dish whose stow is demanded. -/
theorem witness_RestrainDish :
    Ready ⟨0x12, 5, [0]⟩ (asked ⟨0x12, 5, [0]⟩ (stowCell.modDish 0 (fun r => { r with motion := .locked }))) ∧
    (ran ⟨0x12, 5, [0]⟩ (stowCell.modDish 0 (fun r => { r with motion := .locked }))).blocked 0 = some .restrained :=
  ⟨asked_ready _ _ rfl, by decide +kernel⟩

/-- OpenGroupCreatesAnEmptyRecord. -/
theorem witness_OpenGroup :
    Ready ⟨0x20, 5, targetParams ⟨7, 359999, 5000⟩⟩ (asked ⟨0x20, 5, targetParams ⟨7, 359999, 5000⟩⟩ site) :=
  asked_ready _ _ (by decide +kernel)

/-- AddMemberChecksInOrder, with offsets and without. -/
theorem witness_AddMember :
    Ready ⟨0x21, 5, addParams ⟨2, 0, some ⟨10000, -10000⟩⟩⟩ (asked ⟨0x21, 5, addParams ⟨2, 0, some ⟨10000, -10000⟩⟩⟩ grouped) ∧
    Ready ⟨0x21, 5, [2, 0]⟩ (asked ⟨0x21, 5, [2, 0]⟩ grouped) := ⟨asked_ready _ _ (by decide +kernel), asked_ready _ _ rfl⟩

/-- DropMemberAndAimGroup. -/
theorem witness_DropMemberAndAimGroup :
    Ready ⟨0x22, 5, [2, 0]⟩ (asked ⟨0x22, 5, [2, 0]⟩ grouped) ∧
    Ready ⟨0x23, 5, targetParams ⟨2, 1, 90000⟩⟩ (asked ⟨0x23, 5, targetParams ⟨2, 1, 90000⟩⟩ grouped) :=
  ⟨asked_ready _ _ rfl, asked_ready _ _ (by decide +kernel)⟩

/-- StartGroupChecksInOrder: a start that is accepted. -/
theorem witness_StartGroup : Ready ⟨0x24, 5, [2]⟩ (asked ⟨0x24, 5, [2]⟩ grouped) := asked_ready _ _ rfl

/-- AcceptedStartMovesEveryMember: a group whose dishes differ. -/
theorem witness_AcceptedStart :
    ([entry .waiting, { entry .waiting with dish := 47 }].map (fun m => m.dish)).Nodup ∧
    (planGroup grouped ⟨.opened, ⟨30000, 45000⟩, [entry .waiting], [], none, none, none, none⟩).map (fun p => p.azTime) = [1150] := by
  decide +kernel

/-- HaltAndDisbandGroup. -/
theorem witness_HaltAndDisband :
    Ready ⟨0x25, 5, [2]⟩ (asked ⟨0x25, 5, [2]⟩ slewing) ∧
    (∃ gr, slewing.groups[(2 : GroupNo)] = some gr ∧ gr.state = .moving ∧ ∃ m ∈ gr.members, m.sub = .moving) ∧
    Ready ⟨0x26, 5, [2]⟩ (asked ⟨0x26, 5, [2]⟩ grouped) :=
  ⟨asked_ready _ _ rfl, ⟨_, rfl, rfl, _, List.mem_singleton.mpr rfl, rfl⟩, asked_ready _ _ rfl⟩

/-- HaltAndDisbandGroup: its clauses on stopping, removing and judging, in a dish that moves, one that is STOPPING already, and one outside
the group. -/
theorem witness_HaltAndDisband_parts :
    ((slewing.groups[(2 : GroupNo)].map (fun gr => decide (gr.members.map (fun m => m.dish)).Nodup)) = some true ∧
      slewing.dishes[(0 : DishNo)].motion ≠ .stopping ∧ (slewing.groups[(2 : GroupNo)].map (fun gr =>
        decide (∀ m ∈ gr.members, m.sub = .moving → m.dish ≠ 47))) = some true) ∧
    (within .stopping).dishes[(0 : DishNo)].motion = .stopping ∧
    ((removeMember 2 0 .lost id slewing).groups[(2 : GroupNo)].map Group.state) = some .partially := by decide +kernel

/-- SetFeedShedsDownToTheNewCapacity. -/
theorem witness_SetFeed : Ready ⟨0x30, 5, [0x0F, 0xA1]⟩ (asked ⟨0x30, 5, [0x0F, 0xA1]⟩ site) := asked_ready _ _ rfl

/-- WindRequestsActAsTheirRulesSay. -/
theorem witness_WindRequests :
    Ready ⟨0x40, 5, windParams ⟨0, ⟨120, 180, 250, 140, 1000⟩⟩⟩ (asked ⟨0x40, 5, windParams ⟨0, ⟨120, 180, 250, 140, 1000⟩⟩⟩ site) ∧
    Ready ⟨0x42, 5, [0xFF]⟩ (asked ⟨0x42, 5, [0xFF]⟩ site) ∧ Ready ⟨0x43, 5, [7]⟩ (asked ⟨0x43, 5, [7]⟩ stowCell) ∧
    Ready ⟨0x44, 5, [0xFF, 0xFE]⟩ (asked ⟨0x44, 5, [0xFF, 0xFE]⟩ site) :=
  ⟨asked_ready _ _ (by decide +kernel), asked_ready _ _ rfl, asked_ready _ _ rfl, asked_ready _ _ rfl⟩

/-- MeltRequestsReplaceSettings. -/
theorem witness_MeltRequests :
    Ready ⟨0x50, 5, [47, 1, 0]⟩ (asked ⟨0x50, 5, [47, 1, 0]⟩ site) ∧
    Ready ⟨0x51, 5, limitsParams ⟨8, ⟨1023, 720000, 1000, 1000, 90000⟩⟩⟩
      (asked ⟨0x51, 5, limitsParams ⟨8, ⟨1023, 720000, 1000, 1000, 90000⟩⟩⟩ site) :=
  ⟨asked_ready _ _ rfl, asked_ready _ _ (by decide +kernel)⟩

/-- PlaceTagFillsTheLowestEmptySlot; its second clause takes another slot. -/
theorem witness_PlaceTag :
    Ready ⟨0x60, 5, placeParams ⟨65535, 0, 4⟩⟩ (asked ⟨0x60, 5, placeParams ⟨65535, 0, 4⟩⟩ site) ∧ (0 : TagNo) ≠ 63 :=
  ⟨asked_ready _ _ (by decide +kernel), by decide⟩

/-- WindRequestsActAsTheirRulesSay: its stow move starts from an observed position, and its judgement calls and releases the stow. -/
theorem witness_WindRequests_stow :
    site.dishes[(0 : DishNo)].observed = some (seen 0 45000 .still .still) ∧
    (judgeCell 0 (site.modCell 0 (fun c => { c with reasons := { c.reasons with forced := true } }))).cells[(0 : CellNo)].state = .stow ∧
    (judgeCell 0 (stowCell.modCell 0 (fun c => { c with reasons := { c.reasons with forced := false } }))).cells[(0 : CellNo)].state =
      .calm := by decide +kernel

/-- PlaceTagFillsTheLowestEmptySlot: R148 in a dish at rest and in one on the move. -/
theorem witness_PlaceTag_state :
    let tag : Tag := ⟨258, 0, .melt, .stopping, 70⟩
    ((fillSlot 63 tag site).tags[(63 : TagNo)].map Tag.state) = some .held ∧
    ((fillSlot 63 tag slewing).tags[(63 : TagNo)].map Tag.state) = some .stopping := by decide +kernel

/-- The tables of the site agree. -/
theorem siteLaw_site : SiteLaw site := by
  unfold SiteLaw MemberLaw MarkLaw QueueLaw LockLaw
  refine ⟨⟨?_, ?_, ?_, ?_⟩, ?_, ⟨?_, ?_⟩, ?_⟩ <;> (try simp only [Option.mem_def]) <;> decide +kernel

/-- So they do with a member under way. -/
theorem siteLaw_slewing : SiteLaw slewing := by
  unfold SiteLaw MemberLaw MarkLaw QueueLaw LockLaw
  refine ⟨⟨?_, ?_, ?_, ?_⟩, ?_, ⟨?_, ?_⟩, ?_⟩ <;> (try simp only [Option.mem_def]) <;> decide +kernel

/-- NewMotionCoverageLocksOrStopsTheDish: a FREE dish and a moving member. -/
theorem witness_NewMotionCoverage :
    let tag : Tag := ⟨258, 0, .el, .stopping, 70⟩
    ((SiteLaw site ∧ site.tags[(63 : TagNo)] = none ∧ site.serveDue = false ∧ site.dishes[tag.dish].present = true ∧
      (site.coverage tag.dish).az = false ∧ (site.coverage tag.dish).el = false) ∧ tag.scope = .el) ∧
    (SiteLaw slewing ∧ slewing.tags[(63 : TagNo)] = none ∧ slewing.serveDue = false ∧ slewing.dishes[tag.dish].present = true ∧
      (slewing.coverage tag.dish).az = false ∧ (slewing.coverage tag.dish).el = false ∧ slewing.movingMember tag.dish = true) := by
  exact ⟨⟨⟨siteLaw_site, by decide +kernel⟩, rfl⟩, siteLaw_slewing, by decide +kernel⟩

/-- ReleaseTagEmptiesTheSlot. -/
theorem witness_ReleaseTag : Ready ⟨0x61, 5, releaseParams ⟨0, 258⟩⟩ (asked ⟨0x61, 5, releaseParams ⟨0, 258⟩⟩ tagged) :=
  asked_ready _ _ (by decide +kernel)

/-- SetClockReplacesOnlyTheArrayClock. -/
theorem witness_SetClock : Ready ⟨0x70, 5, [0xFF, 0xFF, 0xFF, 0xFF]⟩ (asked ⟨0x70, 5, [0xFF, 0xFF, 0xFF, 0xFF]⟩ site) :=
  asked_ready _ _ rfl

/-- ConditionAndResetRequests. -/
theorem witness_ConditionAndReset :
    Ready ⟨0x71, 5, []⟩ (asked ⟨0x71, 5, []⟩ site) ∧ Ready ⟨0x72, 5, []⟩ (asked ⟨0x72, 5, []⟩ slewing) :=
  ⟨asked_ready _ _ rfl, asked_ready _ _ rfl⟩

/-- A SETPOINT of kind SLEW, sent to dish 0 and still at the head of its list. -/
def sentSlew (s : State) : State :=
  let o : Order := .setpoint ⟨.slew 3050, ⟨30000, 3000, 2000⟩, ⟨45000, 0, 0⟩⟩
  (busy (.motion o) s).modBus 0 (fun b => { b with orders := [o] })

/-- ConditionAndResetRequests: R177 with a slew SETPOINT in flight, of a resting dish and of a moving member; a stow SETPOINT stays. -/
theorem witness_Reset_inFlight :
    let stow : Order := .setpoint ⟨.stow, ⟨0, 0, 0⟩, ⟨90000, 2000, 2000⟩⟩
    let bus := fun (s : State) => (ran ⟨0x72, 5, []⟩ s).bus[(0 : DishNo)]
    ((bus (sentSlew site)).orders = [] ∧ (bus (sentSlew site)).inFlight.map InFlight.headGone = some true) ∧
    ((bus (sentSlew slewing)).orders = [.hold] ∧ (bus (sentSlew slewing)).inFlight.map InFlight.headGone = some true) ∧
    (bus ((busy (.motion stow) stowing).modBus 0 (fun b => { b with orders := [stow] }))).orders = [stow] := by decide +kernel

/-- LookUpsAnswerTheRecordAndChangeNothing. -/
theorem witness_LookUps :
    Ready ⟨0x13, 5, [47]⟩ (asked ⟨0x13, 5, [47]⟩ site) ∧ Ready ⟨0x27, 5, [2]⟩ (asked ⟨0x27, 5, [2]⟩ grouped) ∧
    Ready ⟨0x31, 5, []⟩ (asked ⟨0x31, 5, []⟩ site) ∧ Ready ⟨0x39, 5, []⟩ (asked ⟨0x39, 5, []⟩ site) ∧
    Ready ⟨0x41, 5, [7]⟩ (asked ⟨0x41, 5, [7]⟩ site) ∧ Ready ⟨0x52, 5, [47]⟩ (asked ⟨0x52, 5, [47]⟩ site) ∧
    Ready ⟨0x62, 5, [0]⟩ (asked ⟨0x62, 5, [0]⟩ tagged) ∧ Ready ⟨0x63, 5, [0]⟩ (asked ⟨0x63, 5, [0]⟩ tagged) ∧ PowerLaw site :=
  ⟨asked_ready _ _ rfl, asked_ready _ _ rfl, asked_ready _ _ rfl, asked_ready _ _ rfl, asked_ready _ _ rfl, asked_ready _ _ rfl,
    asked_ready _ _ rfl, asked_ready _ _ rfl, by unfold PowerLaw; decide +kernel⟩

/-- LookUpsAnswerTheRecordAndChangeNothing: a duty of 10 at a rate of 100 counts 63 now, and 25 at a floor of 4; one below the floor counts
whole. -/
theorem test_floorLevel :
    let w := fun (duty : Nat) => (Vector.replicate 48 (⟨0, 0⟩ : MeltGrant)).set 7 { duty := duty, rate := 100 }
    sumMelt (w 10) = 63 ∧ sumFloor (w 10) 4 = 25 ∧ sumFloor (w 3) 4 = sumMelt (w 3) := by decide +kernel

/-- The site whose converter is in a state with a spot pending. -/
def converting (c : Converter) : State := site.modScan (fun x => { x with converter := c, spot := some ⟨5, 15, true⟩ })

/-- SpotReadingAndConverterEvents: each state of the converter, with channel 14 in hand and with channel 15. -/
theorem witness_Converter :
    Ready ⟨0x38, 5, [15]⟩ (asked ⟨0x38, 5, [15]⟩ site) ∧
    ((scanning 14).scan.converter = .channel ∧ (scanning 14).scan.round = some ⟨3000, 14, Vector.replicate 16 0⟩) ∧
    ((scanning 15).scan.round.map (fun r => r.chan)) = some 15 ∧ (site.scan.round = none ∧ site.scan.converter = .idle) ∧
    ((converting .spot).scan.converter = .spot ∧ (converting .spot).scan.spot = some ⟨5, 15, true⟩) ∧
    (converting .dropped).scan.converter = .dropped :=
  ⟨asked_ready _ _ rfl, ⟨rfl, rfl⟩, rfl, ⟨rfl, rfl⟩, ⟨rfl, rfl⟩, rfl⟩

/-- EmptyQueueTakesDueEventOrPassesTime: a conversion of a round, and a spot's that the last centisecond left, end before time passes; the
first in its own centisecond, whatever the free values are. -/
theorem test_conversionsEndInTime :
    (conversionEnds (scanning 14) = [.conversionEnd (Config.sampled 0)] ∧ conversionForced (scanning 14) = true) ∧
    conversionEnds (scanning 15) = [.scanRoundEnd (Config.sampled 0)] ∧
    (conversionForced (tick (converting .spot)) = true ∧ conversionForced (converting .spot) = false) :=
  ⟨⟨rfl, rfl⟩, rfl, by decide +kernel⟩

/-- EmptyQueueTakesDueEventOrPassesTime: a transaction that the last centisecond left ends before time passes. -/
theorem test_windowClosesInTime :
    let s := { busy .status site with siteTime := 3004 }
    (s.bus[(0 : DishNo)].inFlight.map (fun x => x.began != s.siteTime)) = some true ∧ dueEnds s = [.transactionEnd 0 [] false] := by
  decide +kernel

/-- SpotReadingAndConverterEvents: a spot that waits, for a channel and for a dropped conversion. -/
theorem witness_Converter_waiting :
    let waits := fun (s : State) => s.modScan (fun x => { x with spot := some ⟨5, 3, false⟩ })
    ((after (waits (scanning 3)) (.conversionEnd 9)).scan.converter = .spot) ∧
    ((after (waits (converting .dropped)) (.spotConversionEnd 9)).scan.converter = .spot) ∧
    (after (converting .spot) (.spotConversionEnd 9)).scan.converter = .idle := by decide +kernel

/-- RoundEndUpdatesEveryRecord: the mode and its runs at their edges, a good sample, a lost one and one neither, and the monitor with a
load of 4 000 where 1 000 is the feed. -/
theorem witness_RoundEnd_cases :
    let full : Vector Raw 16 := (Vector.replicate 16 0).set 14 4095
    let heavy := fun (run : Nat) => ((scanning 15).modScan (fun x => { x with round := some ⟨3000, 15, full⟩ })).modFeed
      (fun f => { f with overRun := run })
    let bad := (scanning 15).modScan (fun x => { x with round := some ⟨3000, 15, Vector.replicate 16 4095⟩ })
    (after (scanning 15) (.scanRoundEnd 2088)).scan.mode = .normal ∧
    ((after (scanning 15) (.scanRoundEnd 2088)).cells[(0 : CellNo)].last = some 0) ∧
    ((after bad (.scanRoundEnd 2088)).scan.channels[(0 : ChanNo)].lost = false ∧
      (after (bad.modScan (fun x => { x with channels := x.channels.map (fun c => { c with bad := 255 }) })) (.scanRoundEnd 2088)).cells[
        (0 : CellNo)].state = .stow) ∧
    ((after (heavy 2) (.scanRoundEnd 2008)).feed.overRun = 3 ∧ (after (heavy 3) (.scanRoundEnd 2008)).feed.overload = true) := by
  decide +kernel

/-- RoundEndUpdatesEveryRecord: TABLE 5.3's own examples, and the edges of its tests. -/
theorem witness_Convert :
    (convert 8 2130 = some (.number 20) ∧ convert 8 1843 = some (.number (-50)) ∧ convert 11 1638 = some (.number (-100)) ∧
      convert 0 1170 = some (.number 200) ∧ convert 7 4089 = some (.number 698)) ∧
    (convert 7 4090 = none ∧ convert 8 0 = none ∧ convert 12 2047 = some (.wetness false) ∧ convert 13 2048 = some (.wetness true) ∧
      convert 14 4095 = some (.number 4000) ∧ convert 15 2008 = some (.number 2008) ∧ convert 15 2089 = none) := by decide +kernel

/-- RoundEndUpdatesEveryRecord. -/
theorem witness_RoundEnd :
    (scanning 15).scan.converter = .channel ∧ (scanning 15).scan.round = some ⟨3000, 15, Vector.replicate 16 0⟩ ∧
    (⟨3000, 15, Vector.replicate 16 0⟩ : Round).chan = 15 := ⟨rfl, rfl, rfl⟩

/-- PollRoundsAndVisits: off the round's instant and on it, before its visits and after them; a visit, a probe, and neither. -/
theorem witness_PollRounds :
    site.siteTime % 10 ≠ 0 ∧
    (pollDue { site with siteTime := 3010 } 3 = true ∧ pollDue { polling site with siteTime := 3010 } 0 = false ∧
      pollDue { after (polling site) (.visit 0) with siteTime := 3010 } 0 = false) ∧
    ((polling site).nextVisit (segOf 0) = some 0 ∧ (polling site).bus[(0 : DishNo)].link = .active) ∧
    ((polling lostLink).nextVisit (segOf 0) = some 0 ∧ (polling lostLink).bus[(0 : DishNo)].link = .lost) ∧
    site.nextVisit (segOf 0) ≠ some 0 := by decide +kernel

/-- TransactionChecksInOrder: silence, an echo of another address, a short reply, a whole reply, an acknowledge. -/
theorem witness_TransactionChecks :
    let echoed : List Byte := (([11, 0x100] : List Char9).takeWhile (fun c => c.msb = false)).map (fun c => c.setWidth 8)
    let reply := replyBytes 11 ⟨true, seen (-1) 90000 .arrived .fault⟩
    (([10] : List Char9) ≠ [] ∧ ((10 : Byte) :: []).head? ≠ some (BitVec.ofNat 8 11)) ∧
    (echoed.head? = some (BitVec.ofNat 8 11) ∧ echoed.length < 12) ∧
    (reply.head? = some (BitVec.ofNat 8 11) ∧ reply.length = 12 ∧ (readReply reply).isSome = true) ∧
    ([0x2B, 0x5A] : List Byte).head? = some (BitVec.ofNat 8 (0x20 + 11)) := by decide +kernel

/-- TransactionChecksInOrder: a CRC that differs, and an axis state, a fault code and a heater feedback that TABLE 11.7 does not define. -/
theorem witness_ReadReply :
    let good := replyBytes 11 ⟨true, seen (-1) 90000 .arrived .fault⟩
    let framed := fun (k : Nat) (b : Byte) => (good.set k b).take 11 ++ [crc ((good.set k b).take 11)]
    (readReply good).isSome = true ∧ readReply (good.set 11 (good.getD 11 0 + 1)) = none ∧
    readReply (framed 8 0x40) = none ∧ readReply (framed 8 0x04) = none ∧ readReply (framed 9 6) = none ∧ readReply (framed 10 2) = none ∧
    readReply (framed 1 2) = none ∧ (readReply (framed 9 5)).isSome = true := by decide +kernel

/-- FailedAndProbeTransactions: none under way; an orphan; a failed probe; the fourth and the fifth failure; an acknowledge. -/
theorem witness_FailedAndProbe :
    site.bus[(0 : DishNo)].inFlight = none ∧
    (judgeTransaction 0 .probe [] false = .failed .noEcho ∧ (busy .probe lostLink).bus[(0 : DishNo)].inFlight.isSome = true) ∧
    (judgeTransaction 0 .status [] false = .failed .noEcho ∧
      ((busy .status site).modBus 0 (fun b => { b with failures := 3 })).bus[(0 : DishNo)].failures < 4 ∧
      4 ≤ ((busy .status site).modBus 0 (fun b => { b with failures := 4 })).bus[(0 : DishNo)].failures) ∧
    judgeTransaction 0 .probe [0x20, 0x5A] false = .acknowledge := by decide +kernel

/-- FailedAndProbeTransactions: a transaction whose dish has been made not present. -/
theorem witness_FailedAndProbe_orphan :
    ((site.modBus 0 (fun b => { b with inFlight := some ⟨.status, [], 3000, false, false, true⟩ })).bus[(0 : DishNo)].inFlight.map
      InFlight.orphan) = some true := by decide +kernel

/-- GoodReplyIsRecorded: a SETPOINT that a moving member takes, sent at 3 000 for a start at 3 050. -/
theorem witness_GoodReply_setpoint :
    let sp : Setpoint := ⟨.slew 3050, ⟨30000, 3000, 2000⟩, ⟨45000, 0, 0⟩⟩
    let t := after ((busy (.motion (.setpoint sp)) slewing).modBus 0 (fun b => { b with orders := [.setpoint sp] }))
      (.transactionEnd 0 ((replyBytes 0 ⟨false, seen 0 45000 .moving .still⟩).map dataChar) false)
    ((t.memberOf 0).map (fun e => (e.2.start, e.2.deadline))) = some (some 3050, some 4500) ∧ t.bus[(0 : DishNo)].orders = [] := by
  decide +kernel

/-- GoodReplyIsRecorded. -/
theorem witness_GoodReply :
    (busy .status site).bus[(0 : DishNo)].inFlight = some ⟨.status, [], 3000, false, false, false⟩ ∧
    judgeTransaction (addrOf 0) .status ((replyBytes 0 ⟨true, seen 7 8 .moving .still⟩).map dataChar) false =
      .reply ⟨true, seen 7 8 .moving .still⟩ := by decide +kernel

/-- ReplyIsHandledByMotionState: the states that its clauses name, the member and the stow at the edge of their window of 20. -/
theorem witness_ReplyIsHandled :
    (within .unreachable).dishes[(0 : DishNo)].motion = .unreachable ∧
    ((cutWith none).dishes[(0 : DishNo)].motion = .cut ∧ (cutWith none).dishes[(0 : DishNo)].quiet = none) ∧
    (cutWith (some 0)).dishes[(0 : DishNo)].quiet = some 0 ∧
    ((within .stopping).dishes[(0 : DishNo)].motion = .stopping ∧ (within .stopping).dishes[(0 : DishNo)].returnMark = false ∧
      (within .stopping).dishes[(0 : DishNo)].group = none) ∧
    ((within .stopping).modDish 0 (fun r => { r with returnMark := true })).dishes[(0 : DishNo)].returnMark = true := by decide +kernel

/-- ReplyIsHandledByMotionState: a moving member, a stowing dish, the states that no reply but a refusal moves, and the reports. -/
theorem witness_ReplyIsHandled_moves :
    (slewing.dishes[(0 : DishNo)].motion = .member ∧
      slewing.memberOf 0 =
        some (2, { entry .moving with targets := some ⟨30000, 45000⟩, start := some 3000, deadline := some 4450 })) ∧
    (stowing.dishes[(0 : DishNo)].motion = .stowing ∧ stowing.stowMoves[(0 : DishNo)] = some ⟨700, 300, some 3000, some 4000⟩) ∧
    (within .restrained).dishes[(0 : DishNo)].motion = .restrained ∧ (within .stowed).dishes[(0 : DishNo)].motion = .stowed ∧
    ((seen 30020 44980 .arrived .arrived).azState = .arrived ∧ (seen 0 90000 .fault .still).azState = .fault) := by decide +kernel

/-- The site with dish 0 STOPPING in a group that a halt stopped. -/
def halting : State := after (asked ⟨0x25, 5, [2]⟩ slewing) (.haltGroup 5 [2])

/-- ReplyIsHandledByMotionState: a refusal that cuts, the rest of a halted member, and a fault of a member and of a stowing dish. -/
theorem witness_ReplyIsHandled_more :
    (watchedReply 0 ⟨true, seen 0 45000 .still .still⟩ false false slewing).dishes[(0 : DishNo)].quiet = some 2000 ∧
    (halting.dishes[(0 : DishNo)].motion = .stopping ∧ halting.dishes[(0 : DishNo)].returnMark = false ∧
      halting.dishes[(0 : DishNo)].group = some 2) ∧
    (watchedReply 0 ⟨false, seen 0 45000 .still .still⟩ false false halting).dishes[(0 : DishNo)].motion = .member ∧
    (watchedReply 0 ⟨false, seen 0 45000 .fault .still⟩ false false slewing).dishes[(0 : DishNo)].cutReason = some .driveFault ∧
    (watchedReply 0 ⟨false, seen 0 45000 .still .fault⟩ false false stowing).dishes[(0 : DishNo)].cutReason = some .driveFault ∧
    (slewing.memberOf 0).isSome = true ∧ (slewing.groups[(2 : GroupNo)]).isSome = true := by decide +kernel

/-- TagsChangeOnlyByTheirOwnRequests: a return on the move, a rest, and an arrival inside the window, each with a tag of the dish. -/
theorem witness_TagsJudged :
    let mark := fun (st : TagState) (s : State) => s.setTag 0 (some ⟨258, 0, .melt, st, 60⟩)
    let state := fun (s : State) => s.tags[(0 : TagNo)].map Tag.state
    state (judgeTags 0 ⟨false, seen 0 45000 .moving .still⟩ false true (mark .held (within .unreachable))
      (mark .held (within .stopping))) = some .stopping ∧
    state (judgeTags 0 ⟨false, seen 0 45000 .still .still⟩ false false (mark .stopping site) (mark .stopping site)) = some .held ∧
    state (judgeTags 0 ⟨false, seen 30020 44980 .arrived .arrived⟩ false false (mark .stopping slewing) (mark .stopping slewing)) =
      some .held ∧
    state (judgeTags 0 ⟨false, seen 30021 44980 .arrived .arrived⟩ false false (mark .stopping slewing) (mark .stopping slewing)) =
      some .stopping := by decide +kernel

/-- ReplyIsHandledByMotionState: its member clause and its stow clause at the edge of the arrival window and one past it. -/
theorem witness_ReplyIsHandled_edges :
    (watchedReply 0 ⟨false, seen 30020 44980 .arrived .arrived⟩ false false slewing).dishes[(0 : DishNo)].motion = .member ∧
    (watchedReply 0 ⟨false, seen 30021 45000 .arrived .arrived⟩ false false slewing).dishes[(0 : DishNo)].motion = .cut ∧
    (watchedReply 0 ⟨false, seen 0 89980 .arrived .arrived⟩ false false stowing).dishes[(0 : DishNo)].motion = .stowed ∧
    (watchedReply 0 ⟨false, seen 0 89979 .arrived .arrived⟩ false false stowing).dishes[(0 : DishNo)].motion = .cut := by decide +kernel

/-- ExpiriesActWhenTheirTimeHasCome: a member and a stow at their deadlines and before them, and a dish that is neither. -/
theorem witness_Expiries :
    ((State.memberOf { slewing with siteTime := 4450 } 0).map (fun e => (e.1, e.2.sub, e.2.deadline)) = some (2, .moving, some 4450) ∧
      memberOverdue slewing 0 = false) ∧
    (State.memberOf { stowing with siteTime := 4000 } 0 = none ∧
      (stowing.stowMoves[(0 : DishNo)].bind StowMove.deadline) = some 4000 ∧ stowOverdue stowing 0 = false) ∧
    (site.dishes[(0 : DishNo)].motion ≠ .cut ∧ (within .cut).dishes[(0 : DishNo)].motion = .cut ∧
      site.bus[(0 : DishNo)].link = .active) := by decide +kernel

/-- HeaterBoundaryClosesArrearsAndSamplesDemand: off a boundary, at one, and at one already taken. -/
theorem witness_HeaterBoundary :
    site.siteTime % 1600 ≠ 0 ∧ (heating.siteTime % 1600 = 0 ∧ heating.meltWeather.lastBoundary ≠ some heating.siteTime) ∧
    (after heating .heaterBoundary).meltWeather.lastBoundary = some (after heating .heaterBoundary).siteTime := by decide +kernel

/-- WindowsOpenAndCloseOnTime: due, not due, at the closing instant and before it. -/
theorem witness_Windows :
    let due := after heating .heaterBoundary
    let on := after due (.windowOpen 0)
    (due.ownDue 0 = true ∧ due.circuits[(0 : DishNo)].window = none) ∧ site.ownDue 0 = false ∧
    ({ on with siteTime := 4000 }.circuits[(0 : DishNo)].window = some ⟨3200, 4000, .own⟩ ∧ { on with siteTime := 4000 }.ownDue 0 = false) ∧
    on.siteTime < 4000 := by decide +kernel

/-- WindowsOpenAndCloseOnTime: a window carried to the offset, where the own window is due. -/
theorem witness_Windows_carried :
    let both := (after heating .heaterBoundary).modCircuit 0 (fun c => { c with window := some ⟨1600, 3200, .carried⟩ })
    both.circuits[(0 : DishNo)].window = some ⟨1600, 3200, .carried⟩ ∧ both.ownDue 0 = true ∧
    (after both (.windowClose 0)).circuits[(0 : DishNo)].window = some ⟨3200, 4000, .own⟩ := by decide +kernel

/-- WeatherByteMovesTheDetector: the detector's states at the edges of their counts. -/
theorem witness_WeatherByte :
    site.detector = .disabled ∧ { site with detector := .sync 5 }.detector = .sync 5 ∧ { site with detector := .sync 6 }.detector = .sync 6 ∧
    { site with detector := .code 14 }.detector = .code 14 ∧ { site with detector := .code 15 }.detector = .code 15 ∧
    (0x34 : Byte) = BitVec.extractLsb' 0 8 (0x1234 : BitVec 16) := by decide +kernel

/-- ServeStopsAtTheFirstHeadThatDoesNotFit: a queue of two, whose first is served and whose second is refused. -/
theorem witness_Serve :
    let s := { (within .stowQueued).modFeed (fun f => { f with capacity := 105 }) with stowQueue := [0, 5] }
    s.stowQueue.Nodup ∧ (serve s).stowQueue = [5] ∧ (serve s).drive[(0 : DishNo)] = ⟨100, some .stow⟩ := by decide +kernel

/-- SheddingFreesTheNeedOrExhaustsTheCircuits: equal duties fall at the highest dish number. -/
theorem witness_Shedding :
    let s := (site.modGrant 3 (fun _ => ⟨8, 64⟩)).modGrant 4 (fun _ => ⟨8, 64⟩)
    shedPick s.grants 7 = some 4 ∧ (7 < s.grants[(4 : DishNo)].duty ∧ 0 < s.grants[(4 : DishNo)].rate) ∧
    shedPick s.grants 8 = none := by decide +kernel

/-- BoundaryGrantsStayWithinBudgetAndDemand: with an empty queue and while the overload-shed flag is set. -/
theorem witness_BoundaryGrants :
    heating.stowQueue = [] ∧ ((heating.modFeed (fun f => { f with overload := true })).feed.overload = true) ∧
    { heating with stowQueue := [(0 : DishNo)] }.stowQueue ≠ [] := by decide +kernel

/-- PostingsFollowTheOrderTable: the five shapes, a LOST and an ACTIVE link, another dish. -/
theorem witness_Postings :
    let sp : Setpoint := ⟨.stow, ⟨0, 0, 0⟩, ⟨90000, 2000, 2000⟩⟩
    (orderShape [] = true ∧ orderShape [.setpoint sp] = true ∧ orderShape [.hold] = true ∧ orderShape [.hold, .setpoint sp] = true ∧
      orderShape [.cut] = true ∧ orderShape [.setpoint sp, .hold] = false) ∧
    lostLink.bus[(0 : DishNo)].link = .lost ∧ site.bus[(0 : DishNo)].link = .active ∧ (47 : DishNo) ≠ 0 := by decide +kernel

/-- PostingsFollowTheOrderTable: the marks of a transaction under way. -/
theorem witness_Postings_marks :
    let gone := fun (s : State) => s.bus[(0 : DishNo)].inFlight.map (fun x => (x.headGone, x.heatPosted))
    gone (postMotion 0 .hold (sentSlew site)) = some (true, false) ∧ gone (postMotion 0 .cut (sentSlew site)) = some (true, false) ∧
    gone (postMotion 0 .hold ((busy (.motion .hold) site).modBus 0 (fun b => { b with orders := [.hold] }))) = some (false, false) ∧
    gone (postMotion 0 .hold ((busy .status site).modBus 0 (fun b => { b with orders := [.hold] }))) = some (false, false) ∧
    gone (postHeat 0 false (busy (.heat true) site)) = some (false, true) := by decide +kernel

/-- ConditionsStayUntilRead, TagsChangeOnlyByTheirOwnRequests and OnlyTimeItselfMovesTheClocks: a command that answers a next state. -/
theorem witness_ConditionsTagsAndClocks :
    ∃ t, exec .exchangeBegin tagged = .next t ∧ Instr.exchangeBegin ≠ .powerOnReset ∧ (∀ l p, Instr.exchangeBegin ≠ .releaseTag l p) ∧
      (∀ l p, Instr.exchangeBegin ≠ .placeTag l p) ∧ (∀ l p, Instr.exchangeBegin ≠ .setClock l p) ∧
      (∀ l p, Instr.exchangeBegin ≠ .readConditions l p ∧ Instr.exchangeBegin ≠ .resetCoordination l p) ∧
      ([] : List Nat).Pairwise (· < ·) ∧ (0 : Fin 9) ≠ Cond.externalStow.index ∧
      (raise .dishLost [7] site).port.conditions[(2 : Fin 9)].items = [7] ∧
      tagged.tags[(0 : TagNo)] = some ⟨258, 0, .motion, .held, 60⟩ ∧ tagged.tags[(63 : TagNo)] = none :=
  ⟨_, rfl, nofun, nofun, nofun, nofun, fun _ _ => ⟨nofun, nofun⟩, .nil, by decide, by decide +kernel, by decide +kernel,
    by decide +kernel⟩

/-- AxisTimeIsTheLeastThatSuffices: a profile that reaches V and one that does not, at the edge between them, and an observed dish. -/
theorem witness_AxisTime :
    (3000 * 3000 ≤ 4500 * 2000 ∧ axisTime 4500 3000 2000 = 300) ∧ (4499 * 2000 < 3000 * 3000 ∧ axisTime 4499 3000 2000 = 300) ∧
    site.dishes[(0 : DishNo)].observed = some (seen 0 45000 .still .still) := by decide +kernel

/-- TargetsLieWithinTheLimits: the edges of the ranges of the sums and the limits. -/
theorem witness_Targets :
    ((5000 : Int) < 90000 ∧ elevationTarget 100000 5000 90000 = 90000) ∧
    ((-10000 : Int) ≤ 369999 ∧ (-270000 : Int) < 270000 ∧ azimuthTarget 369999 0 (-270000) 270000 = (9999, false)) ∧
    azimuthTarget 180000 0 (-10) 10 = (-10, true) ∧ azimuthTarget 180000 1 (-10) 10 = (10, true) ∧
    (site.dishes[(0 : DishNo)].observed = some (seen 0 45000 .still .still) ∧
      (planMember site ⟨359999, 90000⟩ { entry .waiting with offsets := some ⟨1, 10000⟩ }).target = ⟨0, 90000⟩ ∧
      (planMember site ⟨359999, 90000⟩ { entry .waiting with offsets := some ⟨1, 10000⟩ }).clamped = true) := by decide +kernel

/-- ChosenTimeIsTheLeastThatFits: a plan with a move of 1 150 cs and drive power 100, in half the power. -/
theorem witness_ChosenTime :
    let ps : List MemberPlan := [⟨0, ⟨30000, 45000⟩, false, 1150, 0, 100⟩]
    0 < fullTime ps ∧ chooseTime ps 50 = some 2300 ∧ chooseTime ps 25 = some 4600 ∧ chooseTime ps 24 = none := by decide +kernel

/-- ScaledProfileFitsTheMove: twice the axis time. -/
theorem witness_ScaledProfile :
    axisTime 30000 3000 2000 ≤ 2300 ∧ scaledRate 3000 1150 2300 = 1500 ∧ scaledAccel 2000 1150 2300 = 500 ∧
    axisTime 30000 1500 500 = 2300 := by decide +kernel

/-- ParametersReadBackAsWritten and FramesReadBackAsBuilt: the edges of 24 bits, and the longest request. -/
theorem witness_ReadBack :
    (In24 (-8388608) ∧ In24 8388607) ∧
    (describe1.dish < 256 ∧ (⟨63, 65535⟩ : ReleaseArgs).holder < 65536 ∧ (16777215 : Nat) < 16777216) ∧
    (List.replicate 60 (0 : Byte)).length ≤ 60 ∧ Sent.status ≠ .probe := by
  unfold In24; decide +kernel

/-- The statements of the laws that every step keeps: a step from the site with a member under way, at which the laws of the port,
the power and the melt hold. -/
theorem witness_PortPowerMeltLaws :
    (∃ t, step { slewing with pending := [.exchangeBegin] } = .next t) ∧ PortLaw slewing ∧ PowerLaw slewing ∧ MeltLaw slewing := by
  refine ⟨⟨_, rfl⟩, ?_⟩
  unfold PortLaw PowerLaw MeltLaw
  decide +kernel

/-- There the order lists, the cells and the site's tables keep their laws too, and so do a stowing dish's. -/
theorem witness_OrderCellSiteLaws :
    OrderLaw slewing ∧ CellLaw slewing ∧ SiteLaw slewing ∧ PowerLaw stowing ∧ OrderLaw stowing ∧ CellLaw stowing := by
  refine ⟨?_, ?_, siteLaw_slewing, ?_, ?_, ?_⟩ <;> (first | unfold OrderLaw | unfold CellLaw | unfold PowerLaw) <;> decide +kernel

/-- And the six small laws. -/
theorem witness_TidyLaw : TidyLaw slewing := by
  unfold TidyLaw KindLaw ServeLaw ItemsLaw LineLaw DescriptionLaw Description.InTable
  refine ⟨?_, ?_, ?_, ?_, ?_, ?_, ?_, ?_, ?_, ?_⟩ <;> decide +kernel

/-- The scan's law holds in a round at its channel, with a spot waiting behind it; there a step answers a next state. -/
theorem witness_ScanLaw :
    let s := (scanning 3).modScan (fun x => { x with spot := some ⟨5, 3, false⟩ })
    ScanLaw s ∧ ∃ t, step { s with pending := [.conversionEnd 9] } = .next t := by
  refine ⟨⟨?_, fun _ => rfl, ⟨nofun, ?_⟩, fun _ _ _ => .inl rfl, nofun⟩, _, rfl⟩
  · rintro r ⟨⟩; exact ⟨rfl, nofun⟩
  · rintro ⟨p, ⟨⟩, h⟩; cases h

end Slice0
end Machine
end Sys2Proof
end

