-- ==== Sys2Proof/Proofs/AxisTime.lean ====
section
/-! PROOFS. The axis time of R27: what the rounded-up quotient and the least value found by bisection mean as bounds, the three cases of
the axis time read through them, and the two places that take an axis time from an observed position. -/

namespace Sys2Proof
namespace Machine

/-! ### Rounding up and the least value as bounds -/

/-- The quotient rounded up is the least k whose k·b reaches a. -/
theorem ceilDiv_le_iff {b : Nat} (hb : 0 < b) (a k : Nat) : ceilDiv a b ≤ k ↔ a ≤ k * b := by
  rw [show ceilDiv a b = a ⌈/⌉ b from (Nat.ceilDiv_eq_add_pred_div a b).symm, ceilDiv_le_iff_le_mul hb, Nat.mul_comm]

/-- For a monotone property that fails up to lo and holds at hi, the values from `leastIn` on are the ones that have it. -/
theorem leastIn_le_iff (p : Nat → Bool) (mono : ∀ a b, a ≤ b → p a = true → p b = true) {lo hi : Nat} (hlt : lo < hi)
    (hhi : p hi = true) (hlo : ∀ u, u ≤ lo → p u = false) (t : Nat) : leastIn p lo hi ≤ t ↔ p t = true := by
  obtain ⟨holds, -, -, least⟩ := bisect_spec p mono (hi - lo) lo hi le_rfl hlt hhi hlo
  refine ⟨fun ht => mono _ t ht holds, fun hp => Nat.le_of_not_lt fun ht => ?_⟩
  exact absurd hp (by simp [least t ht])

/-! ### The axis time case by case (R27) -/

/-- An axis that stands on its target takes no time. -/
@[simp] theorem axisTime_zero (v a : Nat) : axisTime 0 v a = 0 := rfl

/-- The trapezoid: an axis that reaches V takes the profile time D/V + V/A in cs, rounded up. -/
theorem axisTime_le_iff_of_reaches {d v a : Nat} (hd : 0 < d) (hv : 0 < v) (ha : 0 < a) (hr : v * v ≤ d * a) (t : Nat) :
    axisTime d v a ≤ t ↔ 100 * d * a + 100 * (v * v) ≤ t * (v * a) := by
  rw [axisTime, if_neg hd.ne', if_pos hr]
  exact ceilDiv_le_iff (Nat.mul_pos hv ha) _ t

/-- The triangle: an axis that turns back before V takes the least t with t²·A ≥ 40 000·D. The search ends at 40 000·D, whose square
times A is enough for every positive A. -/
theorem axisTime_le_iff_of_turnsBack {d v a : Nat} (hd : 0 < d) (ha : 0 < a) (hr : d * a < v * v) (t : Nat) :
    axisTime d v a ≤ t ↔ 40000 * d ≤ t * t * a := by
  rw [axisTime, if_neg hd.ne', if_neg (Nat.not_le.mpr hr)]
  have mono : ∀ x y, x ≤ y → decide (40000 * d ≤ x * x * a) = true → decide (40000 * d ≤ y * y * a) = true := by
    intro x y hxy hx
    have hsq : x * x * a ≤ y * y * a := by gcongr
    exact decide_eq_true ((of_decide_eq_true hx).trans hsq)
  have enough : 40000 * d ≤ 40000 * d * (40000 * d) * a :=
    calc 40000 * d ≤ 40000 * d * (40000 * d) := Nat.le_mul_self _
      _ ≤ 40000 * d * (40000 * d) * a := Nat.le_mul_of_pos_right _ ha
  have atZero : ∀ u, u ≤ 0 → decide (40000 * d ≤ u * u * a) = false := by
    intro u hu
    obtain rfl := Nat.le_zero.mp hu
    simp [hd.ne']
  rw [leastIn_le_iff _ mono (by omega) (decide_eq_true enough) atZero, decide_eq_true_iff]

/-! ### The moves that take an axis time -/

/-- The position a rule reads for an observed dish is the observed one. -/
theorem State.position_of_observed {s : State} {d : DishNo} {o : Observed} (h : s.dishes[d].observed = some o) :
    s.position d = o.position := by
  rw [State.position, h]

/-- R118: a stow move of an observed dish runs from its observed elevation. -/
theorem stowMoveOf_time {s : State} {d : DishNo} {o : Observed} (h : s.dishes[d].observed = some o) :
    (stowMoveOf s d).time =
      axisTime (s.dishes[d].desc.stowEl - o.position.el).natAbs s.dishes[d].desc.el.vMax s.dishes[d].desc.el.aMax := by
  rw [stowMoveOf, State.position_of_observed h, distance]

/-- The axis times of a member's plan are those from the dish's position to the plan's own target. -/
theorem planMember_times (s : State) (target : Angles) (m : Member) :
    (planMember s target m).azTime = axisTime (distance (planMember s target m).target.az (s.position m.dish).az)
      s.dishes[m.dish].desc.az.vMax s.dishes[m.dish].desc.az.aMax ∧
    (planMember s target m).elTime = axisTime (distance (planMember s target m).target.el (s.position m.dish).el)
      s.dishes[m.dish].desc.el.vMax s.dishes[m.dish].desc.el.aMax :=
  ⟨rfl, rfl⟩

/-- Settles O47: the three cases of R27, then the stow move and the planned member, whose axis times start at the observed position. -/
theorem axisTimeIsTheLeastThatSuffices : Obligations.AxisTimeIsTheLeastThatSuffices := by
  unfold Obligations.AxisTimeIsTheLeastThatSuffices
  refine ⟨axisTime_zero, fun d v a t hd hv ha hr => axisTime_le_iff_of_reaches hd hv ha hr t,
    fun d v a t hd _ ha hr => axisTime_le_iff_of_turnsBack hd ha hr t, fun s d o h => stowMoveOf_time h, fun s target m o h => ?_⟩
  have times := planMember_times s target m
  rwa [State.position_of_observed h] at times

end Machine
end Sys2Proof
end

section
/-! PROOFS. OPEN GROUP (R40): what each of its checks answers, and the record that it creates when they all pass. -/

namespace Sys2Proof
namespace Machine

/-! ### The pieces of R40 -/

/-- The group table is read as it stood before the run began. -/
@[simp] theorem begun_groups (r : Request) (s : State) : (s.begun r).groups = s.groups := by
  rw [begun_touches]

/-- The range check of R40, read as the two ranges of the manual. -/
theorem targetInRange_iff (a : TargetArgs) :
    targetInRange a = true ↔ 0 ≤ a.az ∧ a.az ≤ 359999 ∧ 5000 ≤ a.el ∧ a.el ≤ 90000 := by
  simp only [targetInRange, Bool.and_eq_true, decide_eq_true_iff, and_assoc]

/-! ### OPEN GROUP case by case (R40) -/

/-- An id that names no group. -/
theorem openGroup_of_badId {a : TargetArgs} (s : State) (hid : asFin 8 a.group = none) : openGroup a s = answered s .badValue := by
  simp only [openGroup, hid]

/-- A target outside its range. -/
theorem openGroup_of_outOfRange {a : TargetArgs} (s : State) {g : GroupNo} (hid : asFin 8 a.group = some g)
    (hr : ¬ targetInRange a = true) : openGroup a s = answered s .badValue := by
  simp [openGroup, hid, hr]

/-- An id that a record holds already. -/
theorem openGroup_of_taken {a : TargetArgs} {s : State} {g : GroupNo} (hid : asFin 8 a.group = some g)
    (hr : targetInRange a = true) (hg : s.groups[g].isSome = true) : openGroup a s = answered s .groupExists := by
  simp only [openGroup, hid, hr, hg, Bool.not_true, Bool.false_eq_true, if_false, if_true]

/-- A free id: the new record stands under it. -/
theorem openGroup_of_free {a : TargetArgs} {s : State} {g : GroupNo} (hid : asFin 8 a.group = some g)
    (hr : targetInRange a = true) (hg : ¬ s.groups[g].isSome = true) :
    openGroup a s = answered (s.setGroup g (some (newGroup ⟨a.az, a.el⟩))) .ok := by
  simp only [openGroup, hid, hr, hg, Bool.not_true, Bool.false_eq_true, if_false]

/-- Settles O13: the checks of R40 in their order, each read on the state in which the run has begun. -/
theorem openGroupCreatesAnEmptyRecord : Obligations.OpenGroupCreatesAnEmptyRecord := by
  unfold Obligations.OpenGroupCreatesAnEmptyRecord
  intro label params s r a ready
  have run : exec (.openGroup label params) s = .next (endRequest r (openGroup a (s.begun r))) :=
    runRequest_ready r (openGroup a) s ready
  rw [run, ← begun_groups r s]
  congr 1
  cases hid : asFin 8 a.group with
  | none => rw [openGroup_of_badId _ hid]; rfl
  | some g =>
    dsimp only
    split
    case isTrue hr => rw [openGroup_of_outOfRange _ hid (mt (targetInRange_iff a).mp hr)]; rfl
    case isFalse hr =>
      have inRange := (targetInRange_iff a).mpr (not_not.mp hr)
      split
      case isTrue hg => rw [openGroup_of_taken hid inRange hg]; rfl
      case isFalse hg => rw [openGroup_of_free hid inRange hg]; rfl

end Machine
end Sys2Proof
end

section
/-! PROOFS. The check code (R193): one more byte fed into it, the zero register as the fixed point of its step, and the zero that a sequence
followed by its own check leaves. -/

namespace Sys2Proof
namespace Machine

/-- Before the first byte the register stands at 0x00. -/
@[simp] theorem crc_nil : crc [] = 0x00 := rfl

/-- The CRC takes a sequence from its left end, so the last byte is fed into the CRC of all the others. -/
theorem crc_concat (bs : List Byte) (b : Byte) : crc (bs ++ [b]) = crcByte (crc bs) b := by
  simp only [crc, List.foldl_concat]

/-- No bit is shifted out of an empty register, so nothing is folded in. -/
@[simp] theorem crcBit_zero : crcBit 0x00 = 0x00 := by decide

/-- A byte equal to the register cancels it, and the eight bit steps then keep the zero. -/
@[simp] theorem crcByte_self (r : Byte) : crcByte r r = 0x00 := by
  have cancels : r ^^^ r = 0x00 := BitVec.xor_self
  simp only [crcByte, cancels, crcBit_zero]

/-- R193: a sequence followed by its own check leaves the register at 0x00. -/
theorem crc_append_self (bs : List Byte) : crc (bs ++ [crc bs]) = 0x00 := by
  rw [crc_concat, crcByte_self]

/-- Settles O51: the step, the bytes in order, the two examples of R193 run by the model, and the check that cancels the register. -/
theorem crcResidueIsZero : Obligations.CrcResidueIsZero := by
  unfold Obligations.CrcResidueIsZero
  exact ⟨fun _ => rfl, crc_concat, crc_nil, by decide, by decide +kernel, crc_append_self⟩

end Machine
end Sys2Proof
end

section
/-! PROOFS. Shedding (R71): the circuit that a step takes, what one step does to the grants, and what the steps come to. -/

namespace Sys2Proof
namespace Machine

/-! ### Melt reservations (R68) -/

/-- A quotient rounded up grows with what is divided. -/
theorem ceilDiv_mono {a b : Nat} (n : Nat) (h : a ≤ b) : ceilDiv a n ≤ ceilDiv b n :=
  Nat.div_le_div_right (by omega)

/-- A melt reservation does not fall as the duty rises (R68). -/
theorem meltReservation_mono (rate : Nat) {a b : Nat} (h : a ≤ b) : meltReservation rate a ≤ meltReservation rate b :=
  ceilDiv_mono 16 (Nat.mul_le_mul_left rate h)

/-- No duty, no reservation (R68). -/
@[simp] theorem meltReservation_zero (rate : Nat) : meltReservation rate 0 = 0 := by simp [meltReservation, ceilDiv]

/-- A circuit without melt power reserves none (R68). -/
@[simp] theorem meltReservation_rate_zero (duty : Nat) : meltReservation 0 duty = 0 := by simp [meltReservation, ceilDiv]

/-- A circuit's grant lies at or below another's: the same rate, a duty no higher. -/
def MeltGrant.Below (a b : MeltGrant) : Prop := a.rate = b.rate ∧ a.duty ≤ b.duty

/-- A lower duty reserves no more. -/
theorem MeltGrant.Below.reservation_le {a b : MeltGrant} (h : a.Below b) : a.reservation ≤ b.reservation := by
  unfold MeltGrant.reservation; rw [h.1]; exact meltReservation_mono _ h.2

/-- ΣM does not rise where no duty does (R68). -/
theorem sumMelt_le {v w : Vector MeltGrant 48} (h : ∀ d : DishNo, (v[d]).Below w[d]) : sumMelt v ≤ sumMelt w :=
  List.sum_le_sum fun d _ => (h d).reservation_le

/-- The sum of all duties after one grant has changed. -/
theorem sumDuty_set (v : Vector MeltGrant 48) (d : DishNo) (g : MeltGrant) :
    sumDuty (v.set d g) + v[d].duty = sumDuty v + g.duty := by
  have := sum_update (fun e : DishNo => v[e].duty) (fun e : DishNo => (v.set d g)[e].duty) d allDishes
    (List.nodup_finRange 48) (List.mem_finRange d) (fun e h => by simp only [getElem_set_other v d e g h])
  simpa [sumDuty] using this

/-- No duty exceeds the sum of them all. -/
theorem duty_le_sumDuty (v : Vector MeltGrant 48) (d : DishNo) : v[d].duty ≤ sumDuty v :=
  List.le_sum_of_mem (List.mem_map.mpr ⟨d, List.mem_finRange d, rfl⟩)

/-! ### The circuit a step takes -/

/-- A circuit that a step may lower (R71). -/
def Sheddable (v : Vector MeltGrant 48) (floor : Nat) (d : DishNo) : Prop := floor < v[d].duty ∧ 0 < v[d].rate

/-- A circuit that a step takes before, or as, another: the higher duty, the higher dish number among equals (R71). -/
def ShedFirst (v : Vector MeltGrant 48) (d e : DishNo) : Prop := v[e].duty < v[d].duty ∨ (v[e].duty = v[d].duty ∧ e ≤ d)

/-- The circuit found among some of the dishes: none where none may be lowered, else the first to lower. -/
def PickOf (v : Vector MeltGrant 48) (floor : Nat) (l : List DishNo) : Option DishNo → Prop
  | none => ∀ e ∈ l, ¬ Sheddable v floor e
  | some d => d ∈ l ∧ Sheddable v floor d ∧ ∀ e ∈ l, Sheddable v floor e → ShedFirst v d e

/-- The better of the circuit found so far and the next. -/
def betterPick (v : Vector MeltGrant 48) (floor : Nat) (best : Option DishNo) (d : DishNo) : Option DishNo :=
  if floor < v[d].duty && 0 < v[d].rate then
    match best with
    | none => some d
    | some b => if v[b].duty ≤ v[d].duty then some d else some b
  else best

theorem shedPick_eq (v : Vector MeltGrant 48) (floor : Nat) : shedPick v floor = allDishes.foldl (betterPick v floor) none := rfl

/-- One more dish, of a higher number than those before it. -/
theorem betterPick_spec (v : Vector MeltGrant 48) (floor : Nat) (l : List DishNo) (x : DishNo) (best : Option DishNo)
    (hx : ∀ e ∈ l, e < x) (h : PickOf v floor l best) : PickOf v floor (l ++ [x]) (betterPick v floor best x) := by
  unfold betterPick
  split
  case isTrue hs =>
    have hs : Sheddable v floor x := by simpa [Sheddable] using hs
    cases best with
    | none =>
      refine ⟨by simp, hs, fun e he hse => ?_⟩
      rcases List.mem_append.mp he with he | he
      · exact absurd hse (h e he)
      · rw [List.mem_singleton.mp he]; exact .inr ⟨rfl, le_rfl⟩
    | some b =>
      obtain ⟨hb, hsb, first⟩ := h
      dsimp only
      split
      case isTrue hle =>
        refine ⟨by simp, hs, fun e he hse => ?_⟩
        rcases List.mem_append.mp he with he | he
        · have := hx e he
          rcases first e he hse with h | ⟨h, -⟩
          · exact .inl (by omega)
          · rcases Nat.lt_or_eq_of_le hle with h' | h'
            · exact .inl (by omega)
            · exact .inr ⟨by omega, this.le⟩
        · rw [List.mem_singleton.mp he]; exact .inr ⟨rfl, le_rfl⟩
      case isFalse hle =>
        refine ⟨by simp [hb], hsb, fun e he hse => ?_⟩
        rcases List.mem_append.mp he with he | he
        · exact first e he hse
        · rw [List.mem_singleton.mp he]; exact .inl (by omega)
  case isFalse hs =>
    have hs : ¬ Sheddable v floor x := by simpa [Sheddable] using hs
    cases best with
    | none =>
      intro e he
      rcases List.mem_append.mp he with he | he
      · exact h e he
      · rw [List.mem_singleton.mp he]; exact hs
    | some b =>
      obtain ⟨hb, hsb, first⟩ := h
      refine ⟨by simp [hb], hsb, fun e he hse => ?_⟩
      rcases List.mem_append.mp he with he | he
      · exact first e he hse
      · rw [List.mem_singleton.mp he] at hse; exact absurd hse hs

/-- The fold over dishes in rising number finds the circuit to lower first. -/
theorem foldl_betterPick (v : Vector MeltGrant 48) (floor : Nat) (l : List DishNo) (hl : l.Pairwise (· < ·)) :
    PickOf v floor l (l.foldl (betterPick v floor) none) := by
  induction l using List.reverseRecOn with
  | nil => simp [PickOf]
  | append_singleton l x ih =>
    obtain ⟨hl, -, hx⟩ := List.pairwise_append.mp hl
    rw [List.foldl_concat]
    exact betterPick_spec v floor l x _ (fun e he => hx e he x (by simp)) (ih hl)

theorem shedPick_spec (v : Vector MeltGrant 48) (floor : Nat) : PickOf v floor allDishes (shedPick v floor) :=
  foldl_betterPick v floor allDishes (List.pairwise_lt_finRange 48)

/-- R71: the circuit that a step takes. -/
theorem shedPick_eq_some_iff (v : Vector MeltGrant 48) (floor : Nat) (d : DishNo) :
    shedPick v floor = some d ↔ Sheddable v floor d ∧ ∀ e, Sheddable v floor e → ShedFirst v d e := by
  have spec := shedPick_spec v floor
  constructor
  · intro h
    rw [h] at spec
    obtain ⟨-, hs, first⟩ := spec
    exact ⟨hs, fun e => first e (List.mem_finRange e)⟩
  · rintro ⟨hs, first⟩
    cases hp : shedPick v floor with
    | none => rw [hp] at spec; exact absurd hs (spec d (List.mem_finRange d))
    | some b =>
      rw [hp] at spec
      obtain ⟨-, hsb, firstb⟩ := spec
      have h1 := firstb d (List.mem_finRange d) hs
      have h2 := first b hsb
      have h3 : d ≤ b ∧ b ≤ d := by
        rcases h1 with h1 | ⟨h1, hdb⟩ <;> rcases h2 with h2 | ⟨h2, hbd⟩
        case inr.inr => exact ⟨hdb, hbd⟩
        all_goals omega
      rw [le_antisymm h3.1 h3.2]

/-- R71: no circuit may be stepped exactly where every duty is at the floor or below it, or its rate is 0. -/
theorem shedPick_none {v : Vector MeltGrant 48} {floor : Nat} (h : shedPick v floor = none) (d : DishNo) :
    v[d].duty ≤ floor ∨ v[d].rate = 0 := by
  have spec := shedPick_spec v floor
  rw [h] at spec
  have := spec d (List.mem_finRange d)
  unfold Sheddable at this
  omega

theorem sheddable_of_pick {v : Vector MeltGrant 48} {floor : Nat} {d : DishNo} (h : shedPick v floor = some d) :
    Sheddable v floor d := ((shedPick_eq_some_iff v floor d).mp h).1

/-! ### The steps -/

/-- One step: a circuit's duty falls by a sixteenth (R71). -/
def shedOne (d : DishNo) (s : State) : State := lowerDuty d (s.grants[d].duty - 1) s

/-- What a step frees. -/
def shedFreed (d : DishNo) (s : State) : Nat :=
  s.grants[d].reservation - meltReservation s.grants[d].rate (s.grants[d].duty - 1)

/-- One step lowers the one duty. -/
theorem shedOne_grants (d : DishNo) (s : State) :
    (shedOne d s).grants = s.grants.set d { s.grants[d] with duty := s.grants[d].duty - 1 } := lowerDuty_grants _ _ _

/-- One step lowers the sum of duties by one. -/
theorem sumDuty_shedOne {s : State} {floor : Nat} {d : DishNo} (h : Sheddable s.grants floor d) :
    sumDuty (shedOne d s).grants + 1 = sumDuty s.grants := by
  have hset := sumDuty_set s.grants d { s.grants[d] with duty := s.grants[d].duty - 1 }
  rw [← shedOne_grants] at hset
  have := h.1
  dsimp only at hset; omega

/-- One step frees what the one reservation falls by (R71). -/
theorem sumMelt_shedOne (d : DishNo) (s : State) : sumMelt (shedOne d s).grants + shedFreed d s = sumMelt s.grants := by
  have hset := sumMelt_set s.grants d { s.grants[d] with duty := s.grants[d].duty - 1 }
  rw [← shedOne_grants] at hset
  have hle : meltReservation s.grants[d].rate (s.grants[d].duty - 1) ≤ s.grants[d].reservation :=
    meltReservation_mono _ (Nat.sub_le _ _)
  unfold shedFreed
  unfold MeltGrant.reservation at hset hle ⊢
  dsimp only at hset; omega

/-- What lowering a duty leaves of each grant. -/
theorem lowerDuty_below {d : DishNo} {duty : Nat} {s : State} (h : duty ≤ s.grants[d].duty) (e : DishNo) :
    ((lowerDuty d duty s).grants[e]).Below s.grants[e] := by
  rw [lowerDuty_grants]
  by_cases he : e = d
  · subst he; rw [getElem_set_same]; exact ⟨rfl, h⟩
  · rw [getElem_set_other _ _ _ _ he]; exact ⟨rfl, le_rfl⟩

/-- Shedding with fuel left is over, or takes one step and goes on (R71). -/
theorem shedLoop_cases (floor fuel need : Nat) (s : State) :
    (shedLoop floor (fuel + 1) need s = s ∧ (need = 0 ∨ shedPick s.grants floor = none)) ∨
    (∃ d, shedPick s.grants floor = some d ∧ need ≠ 0 ∧
      shedLoop floor (fuel + 1) need s = shedLoop floor fuel (need - shedFreed d s) (shedOne d s)) := by
  by_cases hn : need = 0
  · exact .inl ⟨by simp [shedLoop, hn], .inl hn⟩
  · cases hp : shedPick s.grants floor with
    | none => exact .inl ⟨by simp [shedLoop, hn, hp], .inr rfl⟩
    | some d =>
      have hr : (shedOne d s).grants[d].reservation = meltReservation s.grants[d].rate (s.grants[d].duty - 1) := by
        rw [shedOne_grants, getElem_set_same]; rfl
      refine .inr ⟨d, rfl, hn, ?_⟩
      unfold shedFreed; rw [← hr]
      simp [shedLoop, hn, hp, shedOne]

/-- Whatever every step of the shedding keeps, the shedding keeps. -/
theorem shedLoop_induction {P : State → Prop} (floor : Nat)
    (step : ∀ (d : DishNo) (s : State), Sheddable s.grants floor d → P s → P (shedOne d s))
    (fuel need : Nat) (s : State) (h : P s) : P (shedLoop floor fuel need s) := by
  induction fuel generalizing need s with
  | zero => exact h
  | succ n ih =>
    rcases shedLoop_cases floor n need s with ⟨e, -⟩ | ⟨d, hp, -, e⟩
    · rwa [e]
    · rw [e]; exact ih _ _ (step d s (sheddable_of_pick hp) h)

/-- Whatever every step of the shedding keeps, the shedding keeps. -/
theorem shed_induction {P : State → Prop} (floor need : Nat) (s : State)
    (step : ∀ (d : DishNo) (s : State), Sheddable s.grants floor d → P s → P (shedOne d s)) (h : P s) : P (shed floor need s) :=
  shedLoop_induction floor step _ need s h

/-- A grant that shedding down to a floor may leave: below the one before, and no lower than the floor where it is lower. -/
def MeltGrant.ShedFrom (floor : Nat) (a b : MeltGrant) : Prop := a.Below b ∧ (a.duty < b.duty → floor ≤ a.duty)

/-- R71: no rate changes, no duty rises, and none falls below the floor. -/
theorem shed_duties (floor need : Nat) (s : State) (d : DishNo) : ((shed floor need s).grants[d]).ShedFrom floor s.grants[d] := by
  refine shed_induction (P := fun u => (u.grants[d]).ShedFrom floor s.grants[d]) floor need s (fun b u hs h => ?_)
    ⟨⟨rfl, le_rfl⟩, fun h => absurd h (lt_irrefl _)⟩
  rw [shedOne_grants]
  by_cases hd : d = b
  · subst hd
    have := hs.1
    rw [getElem_set_same]
    exact ⟨⟨h.1.1, (Nat.sub_le _ _).trans h.1.2⟩, fun _ => by dsimp only; omega⟩
  · rwa [getElem_set_other _ _ _ _ hd]

/-- R71: the steps free the need, or leave no circuit to step. -/
theorem shedLoop_frees (floor fuel need : Nat) (s : State) : sumDuty s.grants ≤ fuel →
    sumMelt (shedLoop floor fuel need s).grants + need ≤ sumMelt s.grants ∨
    ∀ d : DishNo, (shedLoop floor fuel need s).grants[d].duty ≤ floor ∨ (shedLoop floor fuel need s).grants[d].rate = 0 := by
  induction fuel generalizing need s with
  | zero =>
    intro hf
    refine .inr fun d => .inl ?_
    have := duty_le_sumDuty s.grants d
    simp only [shedLoop]; omega
  | succ n ih =>
    intro hf
    rcases shedLoop_cases floor n need s with ⟨e, hn | hp⟩ | ⟨d, hp, -, e⟩
    · rw [e]; exact .inl (by omega)
    · rw [e]; exact .inr (shedPick_none hp)
    · rw [e]
      have hd := sumDuty_shedOne (sheddable_of_pick hp)
      have hm := sumMelt_shedOne d s
      generalize shedOne d s = u at hd hm ⊢
      exact (ih (need - shedFreed d s) u (by omega)).imp_left fun h => by omega

/-- R71: with nothing needed nothing is shed. -/
@[simp] theorem shed_zero (floor : Nat) (s : State) : shed floor 0 s = s := by
  unfold shed; cases sumDuty s.grants <;> simp [shedLoop]

/-- R71: shedding is one step after another while need is left and a circuit may be stepped. -/
theorem shed_step (floor need : Nat) (s : State) : shed floor need s =
    if need = 0 then s
    else
      match shedPick s.grants floor with
      | none => s
      | some d => shed floor (need - shedFreed d s) (shedOne d s) := by
  by_cases hn : need = 0
  · rw [if_pos hn, hn, shed_zero]
  rw [if_neg hn]
  cases hp : shedPick s.grants floor with
  | none => unfold shed; cases sumDuty s.grants <;> simp [shedLoop, hn, hp]
  | some d =>
    have hd := sumDuty_shedOne (sheddable_of_pick hp)
    dsimp only
    rw [shed, ← hd]
    rcases shedLoop_cases floor (sumDuty (shedOne d s).grants) need s with ⟨-, h | h⟩ | ⟨e, hp', -, h⟩
    · exact absurd h hn
    · rw [hp] at h; cases h
    · rw [hp] at hp'; cases hp'; exact h

/-! ### What shedding leaves as it was -/

/-- Closing a window leaves the order lists as they were. -/
theorem closeWindow_orders (d e : DishNo) (s : State) : (closeWindow d s).bus[e].orders = s.bus[e].orders := by
  unfold closeWindow openWindow
  dsimp only
  split
  · rw [(postHeat_orders _ _ _ _).1, State.modCircuit_bus, (postHeat_orders _ _ _ _).1, State.modCircuit_bus]
  · rw [(postHeat_orders _ _ _ _).1, State.modCircuit_bus]

/-- Lowering a duty leaves the order lists as they were. -/
theorem lowerDuty_orders (d e : DishNo) (duty : Nat) (s : State) : (lowerDuty d duty s).bus[e].orders = s.bus[e].orders := by
  unfold lowerDuty refitWindow
  split
  · rfl
  · dsimp only
    split
    · rw [closeWindow_orders, State.modGrant_bus]
    · rfl

/-- Shedding leaves the order lists as they were. -/
theorem shed_orders (floor need : Nat) (s : State) (e : DishNo) : (shed floor need s).bus[e].orders = s.bus[e].orders :=
  shed_induction (P := fun u => u.bus[e].orders = s.bus[e].orders) floor need s
    (fun d u _ h => (lowerDuty_orders d e _ u).trans h) rfl

/-- What shedding leaves of each grant. -/
theorem shed_below (floor need : Nat) (s : State) (d : DishNo) : ((shed floor need s).grants[d]).Below s.grants[d] :=
  (shed_duties floor need s d).1

/-- R71: shedding frees the need, or leaves no circuit to step. -/
theorem shed_frees (floor need : Nat) (s : State) :
    sumMelt (shed floor need s).grants + need ≤ sumMelt s.grants ∨
    ∀ d : DishNo, (shed floor need s).grants[d].duty ≤ floor ∨ (shed floor need s).grants[d].rate = 0 :=
  shedLoop_frees floor _ need s le_rfl

/-- Settles O41: the sums and duties step by step, the circuit that the fold finds, and the recursion with its fuel put aside. -/
theorem sheddingFreesTheNeedOrExhaustsTheCircuits : Obligations.SheddingFreesTheNeedOrExhaustsTheCircuits := by
  unfold Obligations.SheddingFreesTheNeedOrExhaustsTheCircuits
  refine ⟨fun floor need s => ⟨sumMelt_le (shed_below floor need s), ?_, fun d => ?_, ?_, fun d => ⟨?_, ?_, shed_orders _ _ _ _⟩⟩,
    fun v floor d => ?_, shed_step⟩
  · exact (shed_frees floor need s).imp_left fun h => by omega
  · have below := shed_below floor need s d
    exact ⟨below.1, below.2, (shed_duties floor need s d).2⟩
  · rintro rfl; exact shed_zero floor s
  · rw [shed_touches]
  · rw [shed_touches]
  · rw [shedPick_eq_some_iff]
    exact and_congr_right fun _ => forall_congr' fun e => ⟨fun h h1 h2 => h ⟨h1, h2⟩, fun h hs => h hs.1 hs.2⟩

end Machine
end Sys2Proof
end

section
/-! PROOFS. The grants of a heater boundary (R76 to R78): fresh grants of duty 0, the two passes over them, and what both keep: the
budget, the demands and the rates. -/

namespace Sys2Proof
namespace Machine

/-! ### A table written entry by entry -/

/-- Every entry of a table is written once where a list without repeats names them all. -/
theorem foldl_set_getElem {α : Type} {n : Nat} (f : Fin n → α) (l : List (Fin n)) (v : Vector α n) (i : Fin n) :
    (l.foldl (fun w j => w.set j (f j)) v)[i] = if i ∈ l then f i else v[i] := by
  induction l generalizing v with
  | nil => simp
  | cons j t ih =>
    rw [List.foldl_cons, ih]
    by_cases hij : i = j
    · subst hij; simp
    · simp [hij, getElem_set_other _ _ _ _ hij]

/-- Every dish is among all dishes. -/
@[simp] theorem mem_allDishes (d : DishNo) : d ∈ allDishes := List.mem_finRange d

/-- Fresh grants have duty 0 and the dish's rate, none for a dish not present (R76). -/
theorem freshGrants_getElem (s : State) (d : DishNo) :
    (freshGrants s)[d] = ⟨0, if s.dishes[d].present then s.dishes[d].desc.pMelt else 0⟩ := by
  unfold freshGrants
  rw [foldl_set_getElem (fun d => (⟨0, if s.dishes[d].present then s.dishes[d].desc.pMelt else 0⟩ : MeltGrant)),
    if_pos (mem_allDishes d)]

/-- Fresh grants reserve nothing. -/
theorem sumMelt_freshGrants (s : State) : sumMelt (freshGrants s) = 0 := by
  refine List.sum_eq_zero fun x hx => ?_
  obtain ⟨d, -, rfl⟩ := List.mem_map.mp hx
  rw [freshGrants_getElem]; exact meltReservation_zero _

/-! ### The largest raise (R78) -/

/-- The extra power of a raise from a duty. -/
def extraPower (rate g duty : Nat) : Nat := meltReservation rate duty - meltReservation rate g

/-- R78: the raise found is the largest one that fits the budget; none where no raise fits. -/
theorem largestRaise_spec (rate budget g k : Nat) :
    g ≤ largestRaise rate budget g k ∧ largestRaise rate budget g k ≤ g + k ∧
    (largestRaise rate budget g k = g ∨ extraPower rate g (largestRaise rate budget g k) ≤ budget) ∧
    ∀ more, largestRaise rate budget g k < more → more ≤ g + k → budget < extraPower rate g more := by
  induction k with
  | zero => exact ⟨le_rfl, le_rfl, .inl rfl, fun more h1 h2 => absurd h2 (Nat.not_le.mpr h1)⟩
  | succ k ih =>
    rw [largestRaise]
    split
    case isTrue fits => exact ⟨Nat.le_add_right _ _, le_rfl, .inr fits, fun more h1 h2 => absurd h2 (Nat.not_le.mpr h1)⟩
    case isFalse tooMuch =>
      obtain ⟨h1, h2, h3, h4⟩ := ih
      refine ⟨h1, by omega, h3, fun more hm hk => ?_⟩
      rcases Nat.lt_or_ge more (g + (k + 1)) with h | h
      · exact h4 more hm (by omega)
      · rw [show more = g + (k + 1) by omega]; exact Nat.not_le.mp tooMuch

/-! ### The two passes (R77, R78) -/

/-- What both passes keep: the reservations granted and the budget left within the whole, every duty within its demand, and the rates. -/
structure PassKeeps (whole : Nat) (demands : DishNo → Nat) (rates : DishNo → Nat) (acc : Nat × Vector MeltGrant 48) : Prop where
  within : sumMelt acc.2 + acc.1 ≤ whole
  duties : ∀ d : DishNo, acc.2[d].duty ≤ demands d
  rates  : ∀ d : DishNo, acc.2[d].rate = rates d

/-- A circuit's duty is replaced by one within its demand, at a cost taken from the budget. -/
theorem PassKeeps.set {whole budget cost duty : Nat} {demands rates : DishNo → Nat} {v : Vector MeltGrant 48} {d : DishNo}
    (h : PassKeeps whole demands rates (budget, v)) (hd : duty ≤ demands d) (hc : cost ≤ budget)
    (hr : meltReservation v[d].rate duty ≤ v[d].reservation + cost) :
    PassKeeps whole demands rates (budget - cost, v.set d ⟨duty, v[d].rate⟩) := by
  constructor
  · have hset := sumMelt_set v d ⟨duty, v[d].rate⟩
    have := h.within
    have hr' : MeltGrant.reservation ⟨duty, v[d].rate⟩ ≤ v[d].reservation + cost := hr
    dsimp only at this ⊢; omega
  · intro e
    by_cases he : e = d
    · subst he; rw [getElem_set_same]; exact hd
    · rw [getElem_set_other _ _ _ _ he]; exact h.duties e
  · intro e
    by_cases he : e = d
    · subst he; rw [getElem_set_same]; exact h.rates e
    · rw [getElem_set_other _ _ _ _ he]; exact h.rates e

theorem pass1Step_keeps {whole : Nat} {demands rates : DishNo → Nat} (floor : Nat) {acc : Nat × Vector MeltGrant 48} (d : DishNo)
    (h : PassKeeps whole demands rates acc) : PassKeeps whole demands rates (pass1Step floor demands acc d) := by
  obtain ⟨budget, v⟩ := acc
  unfold pass1Step
  dsimp only
  split
  case isTrue hc =>
    have hc : 0 < demands d ∧ meltReservation v[d].rate (min (demands d) floor) ≤ budget := by simpa using hc
    exact h.set (Nat.min_le_left _ _) hc.2 (Nat.le_add_left _ _)
  case isFalse => exact h

theorem pass2Step_keeps {whole : Nat} {demands rates : DishNo → Nat} {acc : Nat × Vector MeltGrant 48} (d : DishNo)
    (h : PassKeeps whole demands rates acc) : PassKeeps whole demands rates (pass2Step demands acc d) := by
  obtain ⟨budget, v⟩ := acc
  unfold pass2Step
  dsimp only
  obtain ⟨hge, hle, hfit, -⟩ := largestRaise_spec v[d].rate budget v[d].duty (demands d - v[d].duty)
  have hdem := h.duties d
  dsimp only at hdem
  have mono := meltReservation_mono v[d].rate hge
  refine h.set (by omega) ?_ ?_
  · rcases hfit with e | fits
    · rw [e]; omega
    · exact fits
  · unfold MeltGrant.reservation; omega

/-- What every step of a fold keeps, the fold keeps. -/
theorem foldl_keeps {α β : Type} {P : β → Prop} (f : β → α → β) (step : ∀ b a, P b → P (f b a)) (l : List α) (b : β) (h : P b) :
    P (l.foldl f b) := by
  induction l generalizing b with
  | nil => exact h
  | cons a t ih => exact ih _ (step b a h)

/-- The rate a boundary gives a circuit (R76). -/
def boundaryRate (s : State) (d : DishNo) : Nat := if s.dishes[d].present then s.dishes[d].desc.pMelt else 0

/-- The grants of a boundary keep within the budget, the demands and the rates (R76 to R78). -/
theorem boundaryGrants_keeps (s : State) :
    sumMelt (boundaryGrants s) ≤ meltBudget s ∧
    ∀ d : DishNo, (boundaryGrants s)[d].duty ≤ s.circuits[d].demand ∧ (boundaryGrants s)[d].rate = boundaryRate s d ∧
      (s.feed.overload = true → (boundaryGrants s)[d].duty = 0) := by
  unfold boundaryGrants
  dsimp only
  split
  case isTrue ho =>
    refine ⟨by rw [sumMelt_freshGrants]; exact Nat.zero_le _, fun d => ?_⟩
    rw [freshGrants_getElem]; exact ⟨Nat.zero_le _, rfl, fun _ => rfl⟩
  case isFalse ho =>
    have fresh : PassKeeps (meltBudget s) (fun d => s.circuits[d].demand) (boundaryRate s) (meltBudget s, freshGrants s) :=
      ⟨by dsimp only; rw [sumMelt_freshGrants]; omega, fun d => by dsimp only; rw [freshGrants_getElem]; exact Nat.zero_le _,
        fun d => by dsimp only; rw [freshGrants_getElem]; rfl⟩
    have one := foldl_keeps _ (fun _ d => pass1Step_keeps s.feed.meltFloor d) allDishes _ fresh
    have two := foldl_keeps _ (fun _ d => pass2Step_keeps d) (allDishes.map (dishAfter s.feed.pass2)) _ one
    exact ⟨(Nat.le_add_right _ _).trans two.within, fun d => ⟨two.duties d, two.rates d, fun h => absurd h ho⟩⟩

/-- The budget of a boundary: none while the stow queue is not empty (R76). -/
theorem meltBudget_eq (s : State) : meltBudget s = if s.stowQueue = [] then s.feed.capacity - sumDrive s.drive else 0 := by
  unfold meltBudget; simp only [List.isEmpty_iff]

/-- Settles O42: what the passes keep, then each definition as the rules of R76 to R78 read. -/
theorem boundaryGrantsStayWithinBudgetAndDemand : Obligations.BoundaryGrantsStayWithinBudgetAndDemand := by
  unfold Obligations.BoundaryGrantsStayWithinBudgetAndDemand
  refine ⟨fun s => ?_, fun s => ?_, freshGrants_getElem, fun start k => rfl, fun floor demands budget v d => ?_,
    fun demands budget v d => ?_⟩
  · rw [← meltBudget_eq]; exact boundaryGrants_keeps s
  · dsimp only; rw [← meltBudget_eq]; rfl
  · unfold pass1Step meltReservation
    simp only [Bool.and_eq_true, decide_eq_true_eq]
  · obtain ⟨hge, hle, hfit, hmore⟩ := largestRaise_spec v[d].rate budget v[d].duty (demands d - v[d].duty)
    have raised : (pass2Step demands (budget, v) d).2[d].duty =
        largestRaise v[d].rate budget v[d].duty (demands d - v[d].duty) := by
      unfold pass2Step; dsimp only; rw [getElem_set_same]
    dsimp only
    rw [raised]
    refine ⟨rfl, hge, ?_, fun more h1 h2 => hmore more h1 (by omega)⟩
    rcases Nat.eq_or_lt_of_le hge with e | raises
    · exact .inl e.symm
    · exact hfit.imp_right fun fits => ⟨by omega, fits⟩

end Machine
end Sys2Proof
end

section
/-! PROOFS. Postings (R165, R167): the motion order list and the heat slot after a posting, and the marks on a transaction under way. -/

namespace Sys2Proof
namespace Machine

/-! ### The motion order list -/

/-- A list of one of the five shapes is one of the five (R165). -/
theorem orderShape_cases {l : List Order} (h : orderShape l = true) :
    l = [] ∨ (∃ sp, l = [.setpoint sp]) ∨ l = [.hold] ∨ (∃ sp, l = [.hold, .setpoint sp]) ∨ l = [.cut] := by
  unfold orderShape at h
  split at h <;> simp_all

/-- R165: CUT leaves CUT alone. -/
@[simp] theorem postList_cut (l : List Order) : postList .cut l = [.cut] := rfl

/-- R165: HOLD clears the SETPOINTs, and a CUT stays. -/
theorem postList_hold {l : List Order} (h : orderShape l = true) : postList .hold l = if l = [.cut] then [.cut] else [.hold] := by
  rcases orderShape_cases h with rfl | ⟨sp, rfl⟩ | rfl | ⟨sp, rfl⟩ | rfl <;> rfl

/-- R165: a SETPOINT is appended, or replaces the one at the tail; a CUT does not take it. -/
theorem postList_setpoint (sp old : Setpoint) :
    postList (.setpoint sp) [] = [.setpoint sp] ∧ postList (.setpoint sp) [.hold] = [.hold, .setpoint sp] ∧
    postList (.setpoint sp) [.cut] = [.cut] ∧ postList (.setpoint sp) [.setpoint old] = [.setpoint sp] ∧
    postList (.setpoint sp) [.hold, .setpoint old] = [.hold, .setpoint sp] := by
  refine ⟨rfl, rfl, ?_, ?_, ?_⟩ <;> simp [postList, tailIsSetpoint, Order.isSetpoint]

/-- R165: a posting keeps a list of the five shapes one of them. -/
theorem postList_shape (o : Order) {l : List Order} (h : orderShape l = true) :
    orderShape (postList o l) = true ∧ (postList o l).length ≤ 2 := by
  cases o with
  | cut => exact ⟨rfl, Nat.le_succ 1⟩
  | hold => rw [postList_hold h]; split <;> exact ⟨rfl, Nat.le_succ 1⟩
  | setpoint sp =>
    obtain ⟨h0, hh, hc, -, -⟩ := postList_setpoint sp sp
    rcases orderShape_cases h with rfl | ⟨old, rfl⟩ | rfl | ⟨old, rfl⟩ | rfl
    · rw [h0]; exact ⟨rfl, by simp⟩
    · rw [(postList_setpoint sp old).2.2.2.1]; exact ⟨rfl, by simp⟩
    · rw [hh]; exact ⟨rfl, by simp⟩
    · rw [(postList_setpoint sp old).2.2.2.2]; exact ⟨rfl, by simp⟩
    · rw [hc]; exact ⟨rfl, by simp⟩

/-! ### The posting itself -/

theorem not_linked_of_lost {s : State} {d : DishNo} (h : s.bus[d].link = .lost) : s.linked d = false := by
  simp only [State.linked, h]; rfl

theorem linked_of_active {s : State} {d : DishNo} (h : s.bus[d].link = .active) : s.linked d = true := by
  simp only [State.linked, h]; rfl

theorem linked_iff (s : State) (d : DishNo) : s.linked d = true ↔ s.bus[d].link = .active := by
  simp [State.linked]

/-- R165: a dish whose link is LOST takes no motion order. -/
theorem postMotion_of_lost {s : State} {d : DishNo} (o : Order) (h : s.bus[d].link = .lost) : postMotion d o s = s := by
  rw [postMotion, if_neg (by simp [not_linked_of_lost h])]

/-- R165: the posting to an ACTIVE dish. -/
theorem postMotion_of_active {s : State} {d : DishNo} (o : Order) (h : s.bus[d].link = .active) :
    postMotion d o s = s.modBus d (fun b =>
      { b with orders := postList o b.orders, inFlight := b.inFlight.map (InFlight.loseHead (postReplacesHead o b.orders)) }) := by
  rw [postMotion, if_pos (linked_of_active h)]

/-- R167: a dish whose link is LOST takes no heat order. -/
theorem postHeat_of_lost {s : State} {d : DishNo} (on : Bool) (h : s.bus[d].link = .lost) : postHeat d on s = s := by
  rw [postHeat, if_neg (by simp [not_linked_of_lost h])]

/-- R167: the heat posting to an ACTIVE dish. -/
theorem postHeat_of_active {s : State} {d : DishNo} (on : Bool) (h : s.bus[d].link = .active) :
    postHeat d on s = s.modBus d (fun b => { b with heat := some on, inFlight := b.inFlight.map InFlight.noteHeat }) := by
  rw [postHeat, if_pos (linked_of_active h)]

/-- R165, R170: the postings that remove or replace the head, list by list. -/
theorem postReplacesHead_eq (o : Order) (l : List Order) : postReplacesHead o l =
    match o, l with
    | .cut, _ :: _ => true
    | .hold, .setpoint _ :: _ => true
    | .setpoint _, [.setpoint _] => true
    | _, _ => false := by
  rcases l with _ | ⟨h, _ | ⟨h', t⟩⟩
  · cases o <;> rfl
  · cases o <;> cases h <;> rfl
  · cases o <;> cases h <;> rfl

/-- Settles O43: the list by its five shapes, then the two postings, LOST and ACTIVE. -/
theorem postingsFollowTheOrderTable : Obligations.PostingsFollowTheOrderTable := by
  unfold Obligations.PostingsFollowTheOrderTable
  refine ⟨postList_cut, fun l h => postList_hold h, fun sp => ?_, fun o l h => postList_shape o h, fun d o s => ?_, fun d on s => ?_⟩
  · obtain ⟨h0, hh, hc, -, -⟩ := postList_setpoint sp sp
    exact ⟨h0, hh, hc, fun old => (postList_setpoint sp old).2.2.2⟩
  · refine ⟨postMotion_of_lost o, fun h => ?_⟩
    rw [postMotion_of_active o h]
    dsimp only [State.modBus]
    rw [postReplacesHead_eq]
    rfl
  · exact ⟨postHeat_of_lost on, fun h => postHeat_of_active on h⟩

end Machine
end Sys2Proof
end

section
/-! PROOFS. What one event keeps. `Keeps s t` says at once what the shared operations leave of the clocks, the commands waiting, the tags,
the conditions, and of every law that they keep one by one; it is transitive, so an operation keeps what its parts keep. First the changes
of one piece of state, then the shared operations of Machine/Ops.lean in their order. -/

namespace Sys2Proof
namespace Machine

/-! ### The relation -/

/-- A tag, its state apart (R143). -/
def Tag.bare (t : Tag) : Tag := { t with state := .stopping }

/-- OrderLaw for one record: one of the five shapes, and empty while the link is LOST (R165). -/
def BusRecord.Ordered (b : BusRecord) : Prop :=
  orderShape b.orders = true ∧ (b.link = .lost → b.orders = [] ∧ b.heat = none)

/-- Which clauses of MeltLaw are asked of which dish, in the midst of an event: demand 0 under MELT coverage, a duty within the demand, and
a duty of 0 under the overload-shed flag. -/
structure MeltGuard where
  covered : DishNo → Prop
  granted : DishNo → Prop
  shed    : DishNo → Prop

/-- Every clause is asked of every dish. -/
def MeltGuard.all : MeltGuard := ⟨fun _ => True, fun _ => True, fun _ => True⟩

/-- MeltLaw for one dish's grant and circuit, its coverage and the overload-shed flag, as far as the guard asks for it. -/
structure MeltAt (G : MeltGuard) (d : DishNo) (g : MeltGrant) (c : Circuit) (cov : Coverage) (overload : Bool) : Prop where
  granted : G.granted d → g.duty ≤ c.demand
  demand  : c.demand ≤ 16
  forced  : c.forcedDuty ≤ 16
  covered : G.covered d → cov.melt = true → c.demand = 0
  shed    : G.shed d → overload = true → g.duty = 0

/-- MeltLaw as far as a guard asks for it. -/
def MeltOn (G : MeltGuard) (s : State) : Prop :=
  ∀ d : DishNo, MeltAt G d s.grants[d] s.circuits[d] (s.coverage d) s.feed.overload

/-- MeltLaw asks everything of every dish. -/
theorem meltLaw_iff (s : State) : MeltLaw s ↔ MeltOn .all s :=
  forall_congr' fun _ => ⟨fun ⟨h1, h2, h3, h4, h5⟩ => ⟨fun _ => h1, h2, h3, fun _ => h4, fun _ => h5⟩,
    fun h => ⟨h.granted trivial, h.demand, h.forced, h.covered trivial, h.shed trivial⟩⟩

/-- Nothing raised before is gone: flags stay set and items stay in their sets (R188). -/
def ConditionsGrow (p q : Port) : Prop :=
  ∀ k : Fin 9, (p.conditions[k].flag = true → q.conditions[k].flag = true) ∧
    ∀ n ∈ p.conditions[k].items, n ∈ q.conditions[k].items

/-- What an operation keeps of all but power and melt: the waiting commands, the clocks, the scan, the tags (their states apart), the port
(its conditions apart, which grow), the transactions under way with the time at which they began, and the laws. -/
structure KeepsRest (s t : State) : Prop where
  pending      : t.pending = s.pending
  siteTime     : t.siteTime = s.siteTime
  arrayClock   : t.arrayClock = s.arrayClock
  scan         : t.scan = s.scan
  tags         : ∀ k : TagNo, t.tags[k].map Tag.bare = s.tags[k].map Tag.bare
  port         : t.port = { s.port with conditions := t.port.conditions }
  conditions   : ConditionsGrow s.port t.port
  items        : ItemsLaw s → ItemsLaw t
  kinds        : KindLaw s → KindLaw t
  orders       : OrderLaw s → OrderLaw t
  flights      : ∀ d : DishNo, t.bus[d].inFlight.map InFlight.began = s.bus[d].inFlight.map InFlight.began
  descriptions : DescriptionLaw s → DescriptionLaw t
  cells        : CellLaw s → CellLaw t

/-- What an operation keeps, power and melt with it (R65, R69). -/
structure Keeps (s t : State) : Prop extends KeepsRest s t where
  power : PowerLaw s → PowerLaw t
  melt  : ∀ G, MeltOn G s → MeltOn G t

theorem KeepsRest.refl (s : State) : KeepsRest s s where
  pending := rfl
  siteTime := rfl
  arrayClock := rfl
  scan := rfl
  tags _ := rfl
  port := rfl
  conditions _ := ⟨id, fun _ => id⟩
  items := id
  kinds := id
  orders := id
  flights _ := rfl
  descriptions := id
  cells := id

theorem Keeps.refl (s : State) : Keeps s s := { KeepsRest.refl s with power := id, melt := fun _ => id }

theorem KeepsRest.trans {s t u : State} (h : KeepsRest s t) (k : KeepsRest t u) : KeepsRest s u where
  pending := k.pending.trans h.pending
  siteTime := k.siteTime.trans h.siteTime
  arrayClock := k.arrayClock.trans h.arrayClock
  scan := k.scan.trans h.scan
  tags i := (k.tags i).trans (h.tags i)
  port := by rw [k.port, h.port]
  conditions i := ⟨fun f => (k.conditions i).1 ((h.conditions i).1 f), fun n hn => (k.conditions i).2 n ((h.conditions i).2 n hn)⟩
  items l := k.items (h.items l)
  kinds l := k.kinds (h.kinds l)
  orders l := k.orders (h.orders l)
  flights d := (k.flights d).trans (h.flights d)
  descriptions l := k.descriptions (h.descriptions l)
  cells l := k.cells (h.cells l)

theorem Keeps.trans {s t u : State} (h : Keeps s t) (k : Keeps t u) : Keeps s u :=
  { h.toKeepsRest.trans k.toKeepsRest with power := fun l => k.power (h.power l), melt := fun G l => k.melt G (h.melt G l) }

/-- What each does in turn over a list keeps what each keeps. -/
theorem keeps_foldl {α : Type} (f : α → State → State) (step : ∀ a s, Keeps s (f a s)) (l : List α) (s : State) :
    Keeps s (l.foldl (fun t a => f a t) s) :=
  foldl_keeps (P := Keeps s) _ (fun _ a h => h.trans (step a _)) l s (.refl s)

theorem forDishes_keeps (f : DishNo → State → State) (step : ∀ d s, Keeps s (f d s)) (s : State) : Keeps s (forDishes f s) :=
  keeps_foldl f step allDishes s

/-! ### Changes of one piece of state -/

/-- The pieces that no law of `Keeps` reads, and of a dish record all but its description. -/
theorem keeps_loose {s t : State}
    (h : t = { s with
      dishes := t.dishes, groups := t.groups, stowQueue := t.stowQueue, stowMoves := t.stowMoves, siteCode := t.siteCode
      detector := t.detector, meltWeather := t.meltWeather, settings := t.settings, engines := t.engines
      serveDue := t.serveDue, freeCount := t.freeCount })
    (hd : ∀ d : DishNo, t.dishes[d].desc = s.dishes[d].desc) : Keeps s t := by
  rw [h]
  exact { Keeps.refl s with descriptions := fun l d => by dsimp only; rw [hd d]; exact l d }

theorem modDish_keeps (d : DishNo) (f : DishRecord → DishRecord) (s : State) (hf : ∀ r, (f r).desc = r.desc) :
    Keeps s (s.modDish d f) := by
  refine keeps_loose rfl fun e => ?_
  by_cases he : e = d
  · subst he; rw [State.modDish_same, hf]
  · rw [State.modDish_other _ _ _ _ he]

theorem modGroup_keeps (g : GroupNo) (f : Group → Group) (s : State) : Keeps s (s.modGroup g f) := keeps_loose rfl fun _ => rfl
theorem setGroup_keeps (g : GroupNo) (o : Option Group) (s : State) : Keeps s (s.setGroup g o) := keeps_loose rfl fun _ => rfl
theorem setQueue_keeps (q : List DishNo) (s : State) : Keeps s (s.setQueue q) := keeps_loose rfl fun _ => rfl
theorem setStowMove_keeps (d : DishNo) (o : Option StowMove) (s : State) : Keeps s (s.setStowMove d o) := keeps_loose rfl fun _ => rfl
theorem setDetector_keeps (x : Detector) (s : State) : Keeps s (s.setDetector x) := keeps_loose rfl fun _ => rfl
theorem modWeather_keeps (f : MeltWeather → MeltWeather) (s : State) : Keeps s (s.modWeather f) := keeps_loose rfl fun _ => rfl
theorem modEngine_keeps (g : SegNo) (f : Engine → Engine) (s : State) : Keeps s (s.modEngine g f) := keeps_loose rfl fun _ => rfl
theorem markServe_keeps (s : State) : Keeps s s.markServe := keeps_loose rfl fun _ => rfl

/-- The drive reservations: kinds as TABLE 4.1 has them, and no more power than before, or than there is. -/
theorem modDrive_keeps (d : DishNo) (f : DriveRes → DriveRes) (s : State) (hk : (f s.drive[d]).kind = none ↔ (f s.drive[d]).level = 0)
    (hp : (f s.drive[d]).level ≤ s.drive[d].level ∨
      sumDrive s.drive + (f s.drive[d]).level + sumMelt s.grants ≤ s.feed.capacity + s.drive[d].level) :
    Keeps s (s.modDrive d f) := by
  have hset := sumDrive_set s.drive d (f s.drive[d])
  refine { Keeps.refl s with kinds := fun l e => ?_, power := fun l => ?_ }
  · by_cases he : e = d
    · subst he; rw [State.modDrive_same]; exact hk
    · rw [State.modDrive_other _ _ _ _ he]; exact l e
  · unfold PowerLaw at l ⊢
    rw [State.modDrive_drive, State.modDrive_grants, State.modDrive_feed]
    omega

/-- The bus records: ordered lists stay ordered, and the transactions under way stay. -/
theorem keeps_bus {s t : State} (h : t = { s with bus := t.bus })
    (ho : ∀ d : DishNo, s.bus[d].Ordered → t.bus[d].Ordered)
    (hi : ∀ d : DishNo, t.bus[d].inFlight.map InFlight.began = s.bus[d].inFlight.map InFlight.began) : Keeps s t := by
  rw [h]
  exact { Keeps.refl s with orders := fun l d => ho d (l d), flights := hi }

theorem modBus_keeps (d : DishNo) (f : BusRecord → BusRecord) (s : State) (ho : s.bus[d].Ordered → (f s.bus[d]).Ordered)
    (hi : (f s.bus[d]).inFlight.map InFlight.began = s.bus[d].inFlight.map InFlight.began) : Keeps s (s.modBus d f) := by
  refine keeps_bus rfl (fun e => ?_) (fun e => ?_)
  · by_cases he : e = d
    · subst he; rw [State.modBus_same]; exact ho
    · rw [State.modBus_other _ _ _ _ he]; exact id
  · by_cases he : e = d
    · subst he; rw [State.modBus_same]; exact hi
    · rw [State.modBus_other _ _ _ _ he]

/-- The melt circuits, their demands and forced duties apart. -/
theorem modCircuit_keeps (d : DishNo) (f : Circuit → Circuit) (s : State)
    (hf : ∀ c, (f c).demand = c.demand ∧ (f c).forcedDuty = c.forcedDuty) : Keeps s (s.modCircuit d f) := by
  refine { Keeps.refl s with melt := fun G l e => ?_ }
  have hl := l e
  by_cases he : e = d
  · subst he
    obtain ⟨hd, hf⟩ := hf s.circuits[e]
    rw [State.modCircuit_same]
    exact ⟨fun h => hd ▸ hl.granted h, hd ▸ hl.demand, hf ▸ hl.forced, fun h hc => hd ▸ hl.covered h hc, hl.shed⟩
  · rw [State.modCircuit_other _ _ _ _ he]; exact hl

/-- The melt grants, none raised. -/
theorem keeps_grants {s t : State} (h : t = { s with grants := t.grants }) (hb : ∀ d : DishNo, (t.grants[d]).Below s.grants[d]) :
    Keeps s t := by
  rw [h]
  refine { Keeps.refl s with power := fun l => ?_, melt := fun G l e => ?_ }
  · exact (Nat.add_le_add_left (sumMelt_le hb) _).trans l
  · have hl := l e
    exact ⟨fun h => (hb e).2.trans (hl.granted h), hl.demand, hl.forced, hl.covered,
      fun h ho => Nat.le_zero.mp ((hb e).2.trans (hl.shed h ho).le)⟩

theorem modGrant_keeps (d : DishNo) (f : MeltGrant → MeltGrant) (s : State) (hf : (f s.grants[d]).Below s.grants[d]) :
    Keeps s (s.modGrant d f) := by
  refine keeps_grants rfl fun e => ?_
  by_cases he : e = d
  · subst he; rw [State.modGrant_same]; exact hf
  · rw [State.modGrant_other _ _ _ _ he]; exact ⟨rfl, le_rfl⟩

/-- The rest of the reservation table: the capacity stays, and the overload-shed flag is not set. -/
theorem modFeed_keeps (f : Feed → Feed) (s : State) (hc : (f s.feed).capacity = s.feed.capacity)
    (ho : (f s.feed).overload = true → s.feed.overload = true) : Keeps s (s.modFeed f) := by
  refine { Keeps.refl s with power := fun l => ?_, melt := fun G l e => ?_ }
  · unfold PowerLaw at l ⊢
    rw [State.modFeed_feed, hc]; exact l
  · have hl := l e
    exact ⟨hl.granted, hl.demand, hl.forced, hl.covered, fun h o => hl.shed h (ho o)⟩

/-- A slot's coverage does not depend on its tag's state. -/
theorem slotCoverage_bare (d : DishNo) (o : Option Tag) : slotCoverage d (o.map Tag.bare) = slotCoverage d o := by
  cases o <;> rfl

/-- The coverage of a dish does not depend on the states of its tags (R144). -/
theorem coverageIn_congr {v w : Vector (Option Tag) 64} (h : ∀ k : TagNo, w[k].map Tag.bare = v[k].map Tag.bare) (d : DishNo) :
    coverageIn w d = coverageIn v d := by
  unfold coverageIn
  congr 1
  funext c k
  rw [← slotCoverage_bare d w[k], h k, slotCoverage_bare]

theorem Keeps.coverage {s t : State} (h : Keeps s t) (d : DishNo) : t.coverage d = s.coverage d := coverageIn_congr h.tags d

/-- The states of the tags. -/
theorem keeps_tags {s t : State} (h : t = { s with tags := t.tags })
    (hb : ∀ k : TagNo, t.tags[k].map Tag.bare = s.tags[k].map Tag.bare) : Keeps s t := by
  have cov : ∀ d, State.coverage { s with tags := t.tags } d = s.coverage d := coverageIn_congr hb
  rw [h]
  refine { Keeps.refl s with tags := hb, melt := fun G l e => ?_ }
  have hl := l e
  exact ⟨hl.granted, hl.demand, hl.forced, fun h hc => hl.covered h (by rw [← cov e]; exact hc), hl.shed⟩

/-! ### Conditions (R188) -/

/-- Folding items in keeps those that stood there, adds those named, and keeps the rising order. -/
theorem mem_foldl_insertItem (n : Nat) (items l : List Nat) :
    n ∈ items.foldl (fun l k => insertItem k l) l ↔ n ∈ l ∨ n ∈ items := by
  induction items generalizing l with
  | nil => simp
  | cons k t ih => rw [List.foldl_cons, ih, mem_insertItem, List.mem_cons]; tauto

theorem foldl_insertItem_rising (items l : List Nat) (h : l.Pairwise (· < ·)) :
    (items.foldl (fun l k => insertItem k l) l).Pairwise (· < ·) :=
  foldl_keeps (P := fun l : List Nat => l.Pairwise (· < ·)) _ (fun l k => insertItem_rising k l) items l h

/-- A raised condition: its flag set, the items folded in. -/
theorem raise_same (c : Cond) (items : List Nat) (s : State) :
    (raise c items s).port.conditions[c.index] =
      ⟨true, items.foldl (fun l k => insertItem k l) s.port.conditions[c.index].items⟩ := getElem_set_same _ _ _

/-- Every other condition stays. -/
theorem raise_other (c : Cond) (items : List Nat) (s : State) (k : Fin 9) (h : k ≠ c.index) :
    (raise c items s).port.conditions[k] = s.port.conditions[k] := getElem_set_other _ _ _ _ h

theorem raise_keeps (c : Cond) (items : List Nat) (s : State) : Keeps s (raise c items s) := by
  have grows : ConditionsGrow s.port (raise c items s).port := fun k => by
    by_cases hk : k = c.index
    · subst hk; rw [raise_same]; exact ⟨fun _ => rfl, fun n hn => (mem_foldl_insertItem n _ _).mpr (.inl hn)⟩
    · rw [raise_other _ _ _ _ hk]; exact ⟨id, fun _ => id⟩
  refine { Keeps.refl s with port := rfl, conditions := grows, items := fun l k => ?_ }
  by_cases hk : k = c.index
  · subst hk; rw [raise_same]; exact foldl_insertItem_rising _ _ (l _)
  · rw [raise_other _ _ _ _ hk]; exact l k

/-! ### Postings (R165, R167) -/

theorem InFlight.loseHead_began (gone : Bool) (x : InFlight) : (x.loseHead gone).began = x.began := by
  unfold InFlight.loseHead; split <;> rfl

/-- Marking the transaction under way leaves when it began. -/
theorem map_began {f : InFlight → InFlight} (hf : ∀ x, (f x).began = x.began) (o : Option InFlight) :
    (o.map f).map InFlight.began = o.map InFlight.began := by
  cases o with
  | none => rfl
  | some x => exact congrArg some (hf x)

theorem postMotion_keeps (d : DishNo) (o : Order) (s : State) : Keeps s (postMotion d o s) := by
  cases hl : s.bus[d].link with
  | lost => rw [postMotion_of_lost o hl]; exact .refl s
  | active =>
    rw [postMotion_of_active o hl]
    refine modBus_keeps d _ s (fun ho => ⟨(postList_shape o ho.1).1, fun h => ?_⟩) (map_began (InFlight.loseHead_began _) _)
    exact absurd (hl.symm.trans h) (by decide)

theorem postHeat_keeps (d : DishNo) (on : Bool) (s : State) : Keeps s (postHeat d on s) := by
  cases hl : s.bus[d].link with
  | lost => rw [postHeat_of_lost on hl]; exact .refl s
  | active =>
    rw [postHeat_of_active on hl]
    refine modBus_keeps d _ s (fun ho => ⟨ho.1, fun h => ?_⟩) (map_began (f := InFlight.noteHeat) (fun _ => rfl) _)
    exact absurd (hl.symm.trans h) (by decide)

/-! ### Drive reservations (R66) -/

/-- A change of kind keeps the level, and a kind goes with a level above 0. -/
theorem withKind_kind (k : ResKind) (r : DriveRes) : (r.withKind k).kind = none ↔ (r.withKind k).level = 0 := by
  unfold DriveRes.withKind; split <;> simp_all

@[simp] theorem withKind_level (k : ResKind) (r : DriveRes) : (r.withKind k).level = r.level := by
  unfold DriveRes.withKind; split
  · exact Eq.symm ‹_›
  · rfl

theorem setKind_keeps (d : DishNo) (k : ResKind) (s : State) : Keeps s (setKind d k s) :=
  modDrive_keeps d _ s (withKind_kind k _) (.inl (withKind_level k _).le)

theorem releaseDrive_keeps (d : DishNo) (s : State) : Keeps s (releaseDrive d s) := by
  have zero : Keeps s (s.modDrive d fun _ => ⟨0, none⟩) := modDrive_keeps d _ s (by simp) (.inl (Nat.zero_le _))
  unfold releaseDrive; split
  · exact zero
  · exact zero.trans (markServe_keeps _)

/-- A grant that fits, the dish's own level counted as free (R65). -/
theorem grantDrive_keeps {d : DishNo} {k : ResKind} {level : Nat} {s : State}
    (fits : sumDrive s.drive + level + sumMelt s.grants ≤ s.feed.capacity + s.drive[d].level) : Keeps s (grantDrive d k level s) :=
  modDrive_keeps d _ s (withKind_kind k _) (.inr (by rw [withKind_level]; exact fits))

/-! ### Heater windows and shedding (R71, R72, R135, R136) -/

theorem openWindow_keeps (d : DishNo) (s : State) : Keeps s (openWindow d s) := by
  refine Keeps.trans ?_ (postHeat_keeps d true _)
  exact modCircuit_keeps d _ s fun _ => ⟨rfl, rfl⟩

theorem closeWindow_keeps (d : DishNo) (s : State) : Keeps s (closeWindow d s) := by
  have closed := (modCircuit_keeps d (fun c => { c with window := none }) s fun _ => ⟨rfl, rfl⟩).trans (postHeat_keeps d false _)
  unfold closeWindow; dsimp only; split
  · exact closed.trans (openWindow_keeps d _)
  · exact closed

theorem refitWindow_keeps (d : DishNo) (s : State) : Keeps s (refitWindow d s) := by
  unfold refitWindow; split
  · exact .refl s
  · dsimp only; split
    · exact closeWindow_keeps d s
    · exact modCircuit_keeps d _ s fun _ => ⟨rfl, rfl⟩

theorem lowerDuty_keeps {d : DishNo} {duty : Nat} {s : State} (h : duty ≤ s.grants[d].duty) : Keeps s (lowerDuty d duty s) :=
  (modGrant_keeps d _ s ⟨rfl, h⟩).trans (refitWindow_keeps d _)

theorem lowerToDemand_keeps (d : DishNo) (s : State) : Keeps s (lowerToDemand d s) := by
  unfold lowerToDemand; split
  · exact (lowerDuty_keeps (Nat.le_of_lt ‹_›)).trans (markServe_keeps _)
  · exact .refl s

theorem shed_keeps (floor need : Nat) (s : State) : Keeps s (shed floor need s) :=
  shed_induction (P := Keeps s) floor need s (fun _ _ _ h => h.trans (lowerDuty_keeps (Nat.sub_le _ _))) (.refl s)

/-! ### Motion states of a dish (Chapter 1) -/

theorem setMotion_keeps (d : DishNo) (m : MotionState) (s : State) : Keeps s (setMotion d m s) := modDish_keeps d _ s fun _ => rfl

theorem joinQueue_keeps (d : DishNo) (s : State) : Keeps s (joinQueue d s) := (setMotion_keeps d _ s).trans (keeps_loose rfl fun _ => rfl)

theorem leaveQueue_keeps (d : DishNo) (s : State) : Keeps s (leaveQueue d s) := by
  rw [leaveQueue_eq]; exact keeps_loose rfl fun _ => rfl

theorem settle_keeps (d : DishNo) (s : State) : Keeps s (settle d s) := by
  have cleared := modDish_keeps d (fun r => { r with
    group := none, targets := none, cutReason := none, quiet := none, quietStopped := false, returnMark := false }) s fun _ => rfl
  unfold settle; dsimp only; split
  · exact cleared.trans (joinQueue_keeps d _)
  · split <;> exact cleared.trans (setMotion_keeps d _ _)

theorem goStopping_keeps (d : DishNo) (keepGroup : Bool) (s : State) : Keeps s (goStopping d keepGroup s) := by
  have first : Keeps s (if keepGroup then s else s.modDish d fun r => { r with group := none }) := by
    split
    · exact .refl s
    · exact modDish_keeps d _ s fun _ => rfl
  unfold goStopping; dsimp only; split
  · exact first
  · exact (((first.trans (setMotion_keeps d _ _)).trans (setStowMove_keeps d _ _)).trans (postMotion_keeps d _ _)).trans
      (setKind_keeps d _ _)

theorem startQuiet_keeps (d : DishNo) (s : State) : Keeps s (startQuiet d s) := by
  refine Keeps.trans ?_ (releaseDrive_keeps d _)
  exact modDish_keeps d _ s fun _ => rfl

/-- A dish that leaves the stow queue where it is STOW_QUEUED. -/
theorem leaveQueueIf_keeps (d : DishNo) (p : Prop) [Decidable p] (s : State) : Keeps s (if p then leaveQueue d s else s) := by
  split
  · exact leaveQueue_keeps d s
  · exact .refl s

theorem goCut_keeps (d : DishNo) (why : CutReason) (post : Bool) (s : State) : Keeps s (goCut d why post s) := by
  unfold goCut; split
  · exact .refl s
  · have cut := ((((leaveQueueIf_keeps d (s.dishes[d].motion = .stowQueued) s).trans (modDish_keeps d (fun r =>
      { r with motion := .cut, cutReason := some why, group := none, quiet := none, quietStopped := false }) _ fun _ => rfl)).trans
      (setStowMove_keeps d none _)).trans (setKind_keeps d .stop _)).trans (raise_keeps .dishCut [d.val] _)
    dsimp only; split
    · exact cut.trans (postMotion_keeps d _ _)
    · exact cut

theorem goUnreachable_keeps (d : DishNo) (s : State) : Keeps s (goUnreachable d s) := by
  unfold goUnreachable
  refine (((leaveQueueIf_keeps d (s.dishes[d].motion = .stowQueued) s).trans ?_).trans
    (setStowMove_keeps d none _)).trans (setKind_keeps d .retained _)
  exact modDish_keeps d _ _ fun _ => rfl

/-! ### Removals and the end of a move (R53) -/

theorem modMember_keeps (g : GroupNo) (d : DishNo) (f : Member → Member) (s : State) : Keeps s (modMember g d f s) :=
  modGroup_keeps g _ s

theorem judgeGroup_keeps (g : GroupNo) (s : State) : Keeps s (judgeGroup g s) := by
  unfold judgeGroup; split
  · exact .refl s
  · dsimp only; split
    · exact setGroup_keeps g _ s
    · exact (setGroup_keeps g _ s).trans (raise_keeps _ _ _)

theorem removeMember_keeps (g : GroupNo) (d : DishNo) (why : RemovalReason) {transition : State → State}
    (ht : ∀ s, Keeps s (transition s)) (s : State) : Keeps s (removeMember g d why transition s) := by
  refine (((modGroup_keeps g (Group.remove d why) s).trans ?_).trans (ht _)).trans (judgeGroup_keeps g _)
  exact modDish_keeps d _ _ fun _ => rfl

theorem cutDish_keeps (d : DishNo) (why : CutReason) (post : Bool) (s : State) : Keeps s (cutDish d why post s) := by
  unfold cutDish; split
  · exact removeMember_keeps _ d _ (goCut_keeps d why post) s
  · exact goCut_keeps d why post s

theorem loseDish_keeps (d : DishNo) (s : State) : Keeps s (loseDish d s) := by
  unfold loseDish; split
  · exact .refl s
  · split
    · exact removeMember_keeps _ d _ (goUnreachable_keeps d) s
    · exact goUnreachable_keeps d s

theorem lockMember_keeps (g : GroupNo) (m : Member) (s : State) : Keeps s (lockMember g m s) :=
  removeMember_keeps g m.dish _ (fun t => by
    split
    · exact goStopping_keeps _ _ t
    · exact settle_keeps _ t) s

/-! ### Stow moves and the stow queue (R74, R114 to R118) -/

theorem startStow_keeps (d : DishNo) (s : State) : Keeps s (startStow d s) := by
  refine (Keeps.trans ?_ (setStowMove_keeps d _ _)).trans (postMotion_keeps d _ _)
  exact modDish_keeps d _ s fun _ => rfl

/-- Grants below others, at the floor or below it where melt power is drawn, reserve no more than the floor levels (R70). -/
theorem sumMelt_le_sumFloor {v w : Vector MeltGrant 48} {floor : Nat} (hb : ∀ d : DishNo, (v[d]).Below w[d])
    (hf : ∀ d : DishNo, v[d].duty ≤ floor ∨ v[d].rate = 0) : sumMelt v ≤ sumFloor w floor := by
  refine List.sum_le_sum fun d _ => ?_
  unfold MeltGrant.reservation MeltGrant.floorLevel
  rcases hf d with h | h
  · rw [(hb d).1]; exact meltReservation_mono _ (le_min (hb d).2 h)
  · rw [h, meltReservation_rate_zero]; exact Nat.zero_le _

/-- R70, R71: after shedding down to a floor for what P_free lacks, a need within P_avail fits. -/
theorem shed_makes_room (floor : Nat) (need : Int) (s : State)
    (h : need ≤ s.feed.capacity - sumDrive s.drive - sumFloor s.grants floor) :
    (sumDrive s.drive : Int) + need + sumMelt (shed floor (need - s.pFree).toNat s).grants ≤ s.feed.capacity := by
  rcases shed_frees floor (need - s.pFree).toNat s with freed | stopped
  · have hp : s.pFree = s.feed.capacity - sumDrive s.drive - sumMelt s.grants := rfl
    omega
  · have := sumMelt_le_sumFloor (shed_below floor (need - s.pFree).toNat s) stopped
    omega

/-- No floor, no floor levels. -/
@[simp] theorem sumFloor_zero (v : Vector MeltGrant 48) : sumFloor v 0 = 0 := by
  refine List.sum_eq_zero fun x hx => ?_
  obtain ⟨d, -, rfl⟩ := List.mem_map.mp hx
  unfold MeltGrant.floorLevel
  rw [Nat.min_zero, meltReservation_zero]

/-- R74: a need within P_stow fits after the shedding for it. -/
theorem shedForStow_makes_room {need : Int} {s : State} (h : need ≤ s.pStow) :
    (sumDrive s.drive : Int) + need + sumMelt (shedForStow need s).grants ≤ s.feed.capacity := by
  refine shed_makes_room 0 need s ?_
  rw [sumFloor_zero]; unfold State.pStow at h; omega

/-- Shedding for a stow touches the grants, the circuits and the bus records alone. -/
theorem shedForStow_touches (need : Int) (s : State) :
    shedForStow need s = { s with
      grants := (shedForStow need s).grants, circuits := (shedForStow need s).circuits, bus := (shedForStow need s).bus } :=
  shed_touches 0 _ s

/-- A grant after a shedding has made room for it, the dish's own level counted as free. -/
theorem grantDrive_keeps_after {d : DishNo} {k : ResKind} {need : Int} {level : Nat} {s u : State} (kept : Keeps s u)
    (hd : u.drive = s.drive) (hf : u.feed = s.feed) (hl : (level : Int) ≤ need + s.drive[d].level)
    (room : (sumDrive s.drive : Int) + need + sumMelt u.grants ≤ s.feed.capacity) : Keeps s (grantDrive d k level u) := by
  refine kept.trans (grantDrive_keeps ?_)
  rw [hd, hf]
  omega

theorem shedForStow_keeps (need : Int) (s : State) : Keeps s (shedForStow need s) := shed_keeps 0 (need - s.pFree).toNat s

/-- R74, R75: shedding for a stow and granting it. -/
theorem shedAndGrant_keeps {d : DishNo} {need : Int} {level : Nat} {s : State}
    (hl : (level : Int) ≤ need + s.drive[d].level) (h : need ≤ s.pStow) :
    Keeps s (grantDrive d .stow level (shedForStow need s)) := by
  have h1 := congrArg State.drive (shedForStow_touches need s)
  have h2 := congrArg State.feed (shedForStow_touches need s)
  have h3 := shedForStow_makes_room h
  have h4 := shedForStow_keeps need s
  exact grantDrive_keeps_after h4 h1 h2 hl h3

theorem serveHead_keeps {d : DishNo} {s : State} (h : (s.dishes[d].desc.pDrive : Int) ≤ s.pStow) : Keeps s (serveHead d s) :=
  (shedAndGrant_keeps (by omega) h).trans (startStow_keeps d _)

theorem serveLoop_keeps (fuel : Nat) (s : State) : Keeps s (serveLoop fuel s) := by
  induction fuel generalizing s with
  | zero => exact .refl s
  | succ n ih =>
    unfold serveLoop; split
    · exact .refl s
    · split
      · exact ((setQueue_keeps _ s).trans (serveHead_keeps ‹_›)).trans (ih _)
      · exact .refl s

theorem serve_keeps (s : State) : Keeps s (serve s) :=
  Keeps.trans (t := { s with serveDue := false }) (keeps_loose rfl fun _ => rfl) (serveLoop_keeps _ _)

theorem serveIfDue_keeps (s : State) : Keeps s (serveIfDue s) := by
  unfold serveIfDue; split
  · exact serve_keeps s
  · exact .refl s

theorem convertOrHold_keeps (d : DishNo) (s : State) : Keeps s (convertOrHold d s) := by
  unfold convertOrHold; dsimp only; split
  · exact (shedAndGrant_keeps (by omega) ‹_›).trans (startStow_keeps d _)
  · exact goStopping_keeps d _ s

/-! ### A cell's state, its visits and its hold-down (R104, R106, R113, R123) -/

theorem enterStow_keeps (d : DishNo) (s : State) : Keeps s (enterStow d s) := by
  unfold enterStow; split
  · exact joinQueue_keeps d s
  · split
    · exact .refl s
    · exact joinQueue_keeps d s
  · split
    · refine removeMember_keeps _ d _ (fun t => ?_) s
      split
      · exact convertOrHold_keeps d t
      · exact settle_keeps d t
    · exact .refl s
  · split
    · exact removeMember_keeps _ d _ (fun t => .refl t) s
    · exact .refl s
  · exact .refl s

theorem leaveStow_keeps (d : DishNo) (s : State) : Keeps s (leaveStow d s) := by
  unfold leaveStow; split
  · exact (leaveQueue_keeps d s).trans (settle_keeps d _)
  · exact settle_keeps d s
  · exact .refl s

theorem entryVisit_keeps (c : CellNo) (s : State) : Keeps s (entryVisit c s) :=
  (keeps_foldl _ enterStow_keeps _ s).trans (serve_keeps _)

theorem leavingVisit_keeps (c : CellNo) (s : State) : Keeps s (leavingVisit c s) :=
  (keeps_foldl _ leaveStow_keeps _ s).trans (serve_keeps _)

/-- CellLaw for one cell: its state follows its reasons and mean, and its hold-down is there while a held reason is (R104, R106). -/
def Cell.Lawful (c : Cell) : Prop :=
  c.state = judgedState c.reasons c.mean c.limits.watch ∧ c.holdDown.isSome = c.reasons.held

/-- A cell in the state that its reasons and mean call for (R106). -/
def Cell.judged (c : Cell) : Cell := { c with state := judgedState c.reasons c.mean c.limits.watch }

/-- A cell replaced by a lawful one. -/
theorem modCell_keeps (c : CellNo) (f : Cell → Cell) (s : State) (hf : s.cells[c].Lawful → (f s.cells[c]).Lawful) :
    Keeps s (s.modCell c f) := by
  refine { Keeps.refl s with cells := fun l e => ?_ }
  by_cases he : e = c
  · subst he; rw [State.modCell_same]; exact hf (l e)
  · rw [State.modCell_other _ _ _ _ he]; exact l e

/-- R106: judging a cell puts it in the state called for, and then raises STOW_CHANGED and makes the visit where that is a change. -/
theorem judgeCell_after (c : CellNo) (s : State) : ∃ u, Keeps (s.modCell c Cell.judged) u ∧ judgeCell c s = u := by
  refine ⟨_, ?_, rfl⟩
  unfold judgeCell; dsimp only; split
  case isTrue same =>
    have : s.modCell c Cell.judged = s := by
      have hc : s.cells[c].judged = s.cells[c] := by unfold Cell.judged; rw [same]
      have hv : s.cells.set c (s.cells[c].judged) = s.cells := by rw [hc]; exact Vector.set_getElem_self _
      unfold State.modCell; rw [hv]
    rw [this]; exact .refl s
  case isFalse =>
    have raised : Keeps (s.modCell c Cell.judged) (raise .stowChanged [c.val] (s.modCell c fun x =>
        { x with state := judgedState s.cells[c].reasons s.cells[c].mean s.cells[c].limits.watch })) := raise_keeps _ _ _
    split
    · exact raised.trans (entryVisit_keeps c _)
    · split
      · exact raised.trans (leavingVisit_keeps c _)
      · exact raised

/-- R104, R106: a cell's record is changed and the cell judged, its hold-down there while WIND, GUST or SENSOR is. -/
theorem judgeCell_modCell_keeps (c : CellNo) (f : Cell → Cell) (s : State)
    (hf : s.cells[c].holdDown.isSome = s.cells[c].reasons.held →
      (f s.cells[c]).holdDown.isSome = (f s.cells[c]).reasons.held) : Keeps s (judgeCell c (s.modCell c f)) := by
  obtain ⟨u, hu, e⟩ := judgeCell_after c (s.modCell c f)
  have both : (s.modCell c f).modCell c Cell.judged = s.modCell c (fun x => (f x).judged) := by
    unfold State.modCell
    dsimp only
    congr 1
    rw [getElem_set_same]
    exact Vector.set_set ..
  rw [e]
  refine Keeps.trans ?_ hu
  rw [both]
  exact modCell_keeps c _ s fun l => ⟨rfl, hf l.2⟩

/-! ### The melt lockout (R137, R147) -/

theorem meltLockout_keeps (d : DishNo) (s : State) : Keeps s (meltLockout d s) := by
  have locked : Keeps s ((s.modCircuit d fun c => { c with demand := 0, window := none }).modGrant d fun g => { g with duty := 0 }) := by
    have hb : ∀ e : DishNo, ((s.grants.set d { s.grants[d] with duty := 0 })[e]).Below s.grants[e] := fun e => by
      by_cases he : e = d
      · subst he; rw [getElem_set_same]; exact ⟨rfl, Nat.zero_le _⟩
      · rw [getElem_set_other _ _ _ _ he]; exact ⟨rfl, le_rfl⟩
    refine { Keeps.refl s with power := fun l => (Nat.add_le_add_left (sumMelt_le hb) _).trans l, melt := fun G l e => ?_ }
    have hl := l e
    by_cases he : e = d
    · subst he
      rw [State.modGrant_same, State.modGrant_circuits, State.modCircuit_same]
      exact ⟨fun _ => Nat.zero_le _, Nat.zero_le _, hl.forced, fun _ _ => rfl, fun _ _ => rfl⟩
    · rw [State.modGrant_other _ _ _ _ he, State.modGrant_circuits, State.modCircuit_other _ _ _ _ he]; exact hl
  unfold meltLockout; dsimp only; split
  · exact locked.trans (postHeat_keeps d _ _)
  · exact (locked.trans (postHeat_keeps d _ _)).trans (markServe_keeps _)

end Machine
end Sys2Proof
end

section
/-! PROOFS. The planner's arithmetic (Chapter 2): targets (R23 to R26), the load and the motion time chosen (R28 to R30), and the scaled
profile (R32). -/

namespace Sys2Proof
namespace Machine

/-! ### Targets (R23 to R26) -/

/-- R23: an elevation sum brought within the limits. -/
theorem elevationTarget_spec {sum lower upper : Int} (h : lower < upper) :
    lower ≤ elevationTarget sum lower upper ∧ elevationTarget sum lower upper ≤ upper ∧
    (lower ≤ sum → sum ≤ upper → elevationTarget sum lower upper = sum) ∧
    (sum < lower → elevationTarget sum lower upper = lower) ∧ (upper < sum → elevationTarget sum lower upper = upper) := by
  unfold elevationTarget
  split
  · omega
  · split <;> omega

/-- R24: one turn brings a sum into 0 … 359 999. -/
theorem baseDirection_spec {sum : Int} (h1 : -10000 ≤ sum) (h2 : sum ≤ 369999) :
    0 ≤ baseDirection sum ∧ baseDirection sum ≤ 359999 ∧ ∃ k : Int, sum = baseDirection sum + 360000 * k := by
  unfold baseDirection
  split
  · exact ⟨by omega, by omega, -1, by omega⟩
  · split
    · exact ⟨by omega, by omega, 1, by omega⟩
    · exact ⟨by omega, by omega, 0, by omega⟩

/-- A candidate that R24 prefers to another: nearer the observed azimuth, then smaller in absolute value, then the positive one. -/
def Nearer (observed a b : Int) : Prop :=
  (a - observed).natAbs < (b - observed).natAbs ∨
  ((a - observed).natAbs = (b - observed).natAbs ∧ (a.natAbs < b.natAbs ∨ (a.natAbs = b.natAbs ∧ b < a)))

theorem preferred_iff (observed a b : Int) : preferred observed a b = true ↔ Nearer observed a b := by
  unfold preferred Nearer distance
  split
  · rw [decide_eq_true_iff]; omega
  · split <;> rw [decide_eq_true_iff] <;> omega

/-- Of two candidates one is preferred. -/
theorem nearer_of_not {observed a b : Int} (hab : a ≠ b) (h : ¬ Nearer observed a b) : Nearer observed b a := by
  unfold Nearer at *; omega

/-- R24, R25: a candidate kept is one that lies within the limits. -/
def Kept (t lower upper c : Int) : Prop := (c = t - 360000 ∨ c = t) ∧ lower ≤ c ∧ c ≤ upper

/-- R24: the candidates kept, of a base direction and limits below a turn. -/
theorem kept_candidates {t lower upper : Int} (ht : 0 ≤ t) (hu : upper ≤ 270000) :
    (candidates t).filter (fun c => lower ≤ c && c ≤ upper) =
      (if lower ≤ t - 360000 ∧ t - 360000 ≤ upper then [t - 360000] else []) ++ (if lower ≤ t ∧ t ≤ upper then [t] else []) := by
  have far : ¬ (lower ≤ t + 360000 ∧ t + 360000 ≤ upper) := by omega
  simp only [candidates, List.filter_cons, List.filter_nil, Bool.and_eq_true, decide_eq_true_eq, if_neg far]
  split <;> split <;> rfl

/-- R24, R25: the azimuth target is the preferred candidate kept, or the limit that R25 names where none is kept. -/
theorem azimuthTarget_cases {sum lower upper : Int} (observed : Int) (ht : 0 ≤ baseDirection sum) (hu : upper ≤ 270000) :
    (∃ c, azimuthTarget sum observed lower upper = (c, false) ∧ Kept (baseDirection sum) lower upper c ∧
      ∀ e, Kept (baseDirection sum) lower upper e → e ≠ c → Nearer observed c e) ∨
    (azimuthTarget sum observed lower upper = (clampedAzimuth (baseDirection sum) observed lower upper, true) ∧
      ∀ e, ¬ Kept (baseDirection sum) lower upper e) := by
  unfold azimuthTarget
  dsimp only
  rw [kept_candidates ht hu]
  generalize baseDirection sum = t
  by_cases h1 : lower ≤ t - 360000 ∧ t - 360000 ≤ upper <;> by_cases h2 : lower ≤ t ∧ t ≤ upper
  · rw [if_pos h1, if_pos h2]
    by_cases hp : Nearer observed t (t - 360000)
    · refine .inl ⟨t, by simp [nearest, (preferred_iff _ _ _).mpr hp], ⟨.inr rfl, h2⟩, fun e he hne => ?_⟩
      rcases he.1 with rfl | rfl
      · exact hp
      · exact absurd rfl hne
    · refine .inl ⟨t - 360000, by simp [nearest, mt (preferred_iff _ _ _).mp hp], ⟨.inl rfl, h1⟩, fun e he hne => ?_⟩
      rcases he.1 with rfl | rfl
      · exact absurd rfl hne
      · exact nearer_of_not (by omega) hp
  · rw [if_pos h1, if_neg h2]
    refine .inl ⟨t - 360000, rfl, ⟨.inl rfl, h1⟩, fun e he hne => ?_⟩
    rcases he.1 with rfl | rfl
    · exact absurd rfl hne
    · exact absurd he.2 h2
  · rw [if_neg h1, if_pos h2]
    refine .inl ⟨t, rfl, ⟨.inr rfl, h2⟩, fun e he hne => ?_⟩
    rcases he.1 with rfl | rfl
    · exact absurd he.2 h1
    · exact absurd rfl hne
  · rw [if_neg h1, if_neg h2]
    refine .inr ⟨rfl, fun e he => ?_⟩
    rcases he.1 with rfl | rfl
    · exact h1 he.2
    · exact h2 he.2

/-- R25: the clamped target is the limit nearer the candidates, then nearer the observed azimuth, then the lower one. -/
theorem clampedAzimuth_spec (t observed lower upper : Int) :
    (limitDistance lower t < limitDistance upper t → clampedAzimuth t observed lower upper = lower) ∧
    (limitDistance upper t < limitDistance lower t → clampedAzimuth t observed lower upper = upper) ∧
    (limitDistance lower t = limitDistance upper t → clampedAzimuth t observed lower upper =
      if (upper - observed).natAbs < (lower - observed).natAbs then upper else lower) := by
  unfold clampedAzimuth distance
  refine ⟨fun h => if_pos h, fun h => ?_, fun h => ?_⟩
  · rw [if_neg (Nat.lt_asymm h), if_pos h]
  · rw [if_neg (by omega), if_neg (by omega)]

theorem clampedAzimuth_within {t observed lower upper : Int} (h : lower < upper) :
    lower ≤ clampedAzimuth t observed lower upper ∧ clampedAzimuth t observed lower upper ≤ upper := by
  unfold clampedAzimuth
  split
  · omega
  · split
    · omega
    · split <;> omega

/-- Settles O48: the plan member by member, then R23 for the elevation and R24, R25 for the azimuth, kept or clamped. -/
theorem targetsLieWithinTheLimits : Obligations.TargetsLieWithinTheLimits := by
  unfold Obligations.TargetsLieWithinTheLimits
  refine ⟨fun s gr => rfl, fun s target m o ho => ?_, fun sum lower upper h => elevationTarget_spec h,
    fun sum observed lower upper h1 h2 _ hlt hu => ?_⟩
  · dsimp only
    have hpos : s.position m.dish = o.position := State.position_of_observed ho
    unfold planMember
    rw [hpos]
    cases m.offsets with
    | none => exact ⟨rfl, rfl, by simp, rfl⟩
    | some a => exact ⟨rfl, rfl, by simp, rfl⟩
  · obtain ⟨t0, t1, turn⟩ := baseDirection_spec h1 h2
    dsimp only
    refine ⟨⟨t0, t1, turn⟩, ?_⟩
    rcases azimuthTarget_cases (lower := lower) observed t0 hu with ⟨c, e, kept, best⟩ | ⟨e, none⟩
    · rw [e]
      exact ⟨kept.2.1, kept.2.2, ⟨fun _ => ⟨c, kept⟩, fun _ => rfl⟩, fun _ => ⟨kept, best⟩, fun h => absurd h Bool.false_ne_true⟩
    · rw [e]
      obtain ⟨hlo, hup⟩ := clampedAzimuth_within (t := baseDirection sum) (observed := observed) hlt
      exact ⟨hlo, hup, ⟨fun h => absurd h.symm Bool.false_ne_true, fun ⟨c, hc⟩ => absurd hc (none c)⟩,
        fun h => absurd h.symm Bool.false_ne_true,
        fun _ => clampedAzimuth_spec _ _ _ _⟩

/-! ### The load and the motion time (R28 to R30) -/

/-- The largest of a list of numbers bounds them all, and is one of them where above 0. -/
theorem foldl_max_spec (l : List Nat) (n : Nat) :
    n ≤ l.foldl max n ∧ (∀ x ∈ l, x ≤ l.foldl max n) ∧ (n < l.foldl max n → l.foldl max n ∈ l) := by
  induction l generalizing n with
  | nil => exact ⟨Nat.le_refl n, fun _ h => absurd h List.not_mem_nil, fun h => absurd h (Nat.lt_irrefl n)⟩
  | cons a t ih =>
    obtain ⟨h1, h2, h3⟩ := ih (max n a)
    rw [List.foldl_cons]
    refine ⟨(le_max_left n a).trans h1, fun x hx => ?_, fun h => ?_⟩
    · rcases List.mem_cons.mp hx with rfl | hx
      · exact (le_max_right n x).trans h1
      · exact h2 x hx
    · rcases Nat.eq_or_lt_of_le h1 with e | hlt
      · rw [← e]
        have : max n a = a := by omega
        rw [this]; exact List.mem_cons_self
      · exact List.mem_cons_of_mem _ (h3 hlt)

/-- R28: the full-rate time is the largest member time. -/
theorem time_le_fullTime {ps : List MemberPlan} {p : MemberPlan} (h : p ∈ ps) : p.time ≤ fullTime ps :=
  (foldl_max_spec (ps.map MemberPlan.time) 0).2.1 _ (List.mem_map_of_mem h)

theorem exists_time_eq_fullTime {ps : List MemberPlan} (h : 0 < fullTime ps) : ∃ p ∈ ps, fullTime ps = p.time := by
  obtain ⟨p, hp, e⟩ := List.mem_map.mp ((foldl_max_spec (ps.map MemberPlan.time) 0).2.2 h)
  exact ⟨p, hp, e.symm⟩

/-- R29: a load term does not rise with the motion time. -/
theorem loadTerm_anti (p : MemberPlan) {t u : Nat} (ht : 0 < t) (h : t ≤ u) : loadTerm p u ≤ loadTerm p t := by
  refine max_le_max_right _ ((ceilDiv_le_iff (ht.trans_le h) _ _).mpr ?_)
  calc p.pDrive * p.time ≤ ceilDiv (p.pDrive * p.time) t * t := (ceilDiv_le_iff ht _ _).mp le_rfl
    _ ≤ ceilDiv (p.pDrive * p.time) t * u := Nat.mul_le_mul_left _ h

/-- R29: the group load does not rise with the motion time. -/
theorem groupLoad_anti (ps : List MemberPlan) {t u : Nat} (ht : 0 < t) (h : t ≤ u) : groupLoad ps u ≤ groupLoad ps t :=
  List.sum_le_sum fun p _ => loadTerm_anti p ht h

/-- R29: four times the full-rate time brings every member down to its servo floor. -/
theorem groupLoad_four (ps : List MemberPlan) (h0 : 0 < fullTime ps) : groupLoad ps (4 * fullTime ps) = leastLoad ps := by
  unfold groupLoad leastLoad
  congr 1
  refine List.map_congr_left fun p hp => max_eq_right ((ceilDiv_le_iff (by omega) _ _).mpr ?_)
  calc p.pDrive * p.time ≤ servoFloor p.pDrive * 4 * fullTime ps :=
        Nat.mul_le_mul ((ceilDiv_le_iff (by decide) _ _).mp le_rfl) (time_le_fullTime hp)
    _ = servoFloor p.pDrive * (4 * fullTime ps) := Nat.mul_assoc _ _ _

/-- The bisection reads the property from its lower end on. -/
theorem bisect_congr {p q : Nat → Bool} (fuel : Nat) {lo hi : Nat} (h : ∀ t, lo ≤ t → p t = q t) :
    bisect p fuel lo hi = bisect q fuel lo hi := by
  induction fuel generalizing lo hi with
  | zero => rfl
  | succ n ih =>
    simp only [bisect]
    split
    · rfl
    case isFalse hlt =>
      rw [h ((lo + hi) / 2) (by omega)]
      split
      · exact ih h
      · exact ih fun t ht => h t (by omega)

/-- R30: the search from the full-rate time finds the least later time that fits. -/
theorem leastFit_spec {ps : List MemberPlan} {avail : Int} (h0 : 0 < fullTime ps) (hno : avail < groupLoad ps (fullTime ps))
    (hleast : (leastLoad ps : Int) ≤ avail) :
    let t := leastIn (fun t => (groupLoad ps t : Int) ≤ avail) (fullTime ps) (4 * fullTime ps)
    (groupLoad ps t : Int) ≤ avail ∧ fullTime ps < t ∧ t ≤ 4 * fullTime ps ∧
      ∀ u, fullTime ps ≤ u → u < t → avail < groupLoad ps u := by
  let q : Nat → Bool := fun t => decide (fullTime ps ≤ t) && decide ((groupLoad ps t : Int) ≤ avail)
  have qt : ∀ t, q t = true ↔ fullTime ps ≤ t ∧ (groupLoad ps t : Int) ≤ avail := fun t => by
    simp only [q, Bool.and_eq_true, decide_eq_true_eq]
  have same : leastIn (fun t => (groupLoad ps t : Int) ≤ avail) (fullTime ps) (4 * fullTime ps) =
      bisect q (4 * fullTime ps - fullTime ps) (fullTime ps) (4 * fullTime ps) :=
    bisect_congr _ fun t ht => by simp only [q, ht, decide_true, Bool.true_and]
  have mono : ∀ a b, a ≤ b → q a = true → q b = true := by
    intro a b hab ha
    obtain ⟨h1, h2⟩ := (qt a).mp ha
    have := groupLoad_anti ps (h0.trans_le h1) hab
    exact (qt b).mpr ⟨h1.trans hab, by omega⟩
  have atEnd : q (4 * fullTime ps) = true := (qt _).mpr ⟨by omega, by rw [groupLoad_four ps h0]; exact hleast⟩
  have before : ∀ u, u ≤ fullTime ps → q u = false := by
    intro u hu
    rw [← Bool.not_eq_true, qt]
    rintro ⟨h1, h2⟩
    rw [le_antisymm hu h1] at h2; omega
  obtain ⟨holds, hlo, hhi, least⟩ := bisect_spec q mono _ _ _ le_rfl (by omega) atEnd before
  dsimp only
  rw [same]
  refine ⟨((qt _).mp holds).2, hlo, hhi, fun u hu hlt => ?_⟩
  have hq := least u hlt
  rw [← Bool.not_eq_true, qt] at hq
  omega

/-- R30: the motion time chosen fits, lies between the full-rate time and four times it, and no earlier one fits. -/
theorem chooseTime_spec {ps : List MemberPlan} {avail : Int} (h0 : 0 < fullTime ps) {t : Nat} (h : chooseTime ps avail = some t) :
    (groupLoad ps t : Int) ≤ avail ∧ fullTime ps ≤ t ∧ t ≤ 4 * fullTime ps ∧
      ∀ u, fullTime ps ≤ u → u < t → avail < groupLoad ps u := by
  unfold chooseTime at h
  dsimp only at h
  split at h
  case isTrue fits => cases h; exact ⟨fits, le_rfl, by omega, fun u h1 h2 => absurd h2 (Nat.not_lt.mpr h1)⟩
  case isFalse hno =>
    split at h
    · cases h
    case isFalse hl =>
      cases h
      obtain ⟨fits, hlo, hhi, least⟩ := leastFit_spec h0 (not_le.mp hno) (not_lt.mp hl)
      exact ⟨fits, hlo.le, hhi, least⟩

/-- R30: POWER_SHORT exactly where neither the full-rate load nor the least load fits. -/
theorem chooseTime_none (ps : List MemberPlan) (avail : Int) :
    chooseTime ps avail = none ↔ avail < groupLoad ps (fullTime ps) ∧ avail < leastLoad ps := by
  unfold chooseTime
  dsimp only
  split
  case isTrue fits => exact iff_of_false (Option.some_ne_none _) fun h => absurd h.1 (not_lt.mpr fits)
  case isFalse hno =>
    split
    case isTrue hl => exact iff_of_true rfl ⟨not_le.mp hno, hl⟩
    case isFalse hl => exact iff_of_false (Option.some_ne_none _) fun h => absurd h.2 hl

/-- Settles O49: the load term and the sums as defined, the largest time, then the search over a load that does not rise. -/
theorem chosenTimeIsTheLeastThatFits : Obligations.ChosenTimeIsTheLeastThatFits := by
  unfold Obligations.ChosenTimeIsTheLeastThatFits
  refine ⟨fun p t => rfl, fun ps t => ⟨rfl, rfl, fun p hp => ?_, exists_time_eq_fullTime⟩, fun n d k hd => ceilDiv_le_iff hd n k,
    fun ps avail h0 => ⟨chooseTime_none ps avail, fun t => chooseTime_spec h0, fun t u ht => groupLoad_anti ps (h0.trans_le ht),
      groupLoad_four ps h0⟩⟩
  exact ⟨(le_max_left _ _).trans (time_le_fullTime hp), (le_max_right _ _).trans (time_le_fullTime hp)⟩

/-! ### The scaled profile (R32) -/

/-- What is divided is at most the quotient rounded up, times the divisor. -/
theorem le_ceilDiv_mul {b : Nat} (hb : 0 < b) (a : Nat) : a ≤ ceilDiv a b * b := (ceilDiv_le_iff hb a _).mp le_rfl

/-- R27: an axis that moves takes time, and enough of it for its acceleration alone. -/
theorem axisTime_enough {d v a : Nat} (hd : 0 < d) (hv : 0 < v) (ha : 0 < a) :
    0 < axisTime d v a ∧ 40000 * d ≤ axisTime d v a ^ 2 * a := by
  suffices h : 40000 * d ≤ axisTime d v a ^ 2 * a by
    refine ⟨Nat.pos_of_ne_zero fun e => ?_, h⟩
    rw [e] at h; omega
  rcases Nat.lt_or_ge (d * a) (v * v) with hr | hr
  · have := (axisTime_le_iff_of_turnsBack hd ha hr _).mp le_rfl
    rwa [pow_two]
  · have trapezoid := (axisTime_le_iff_of_reaches hd hv ha hr _).mp le_rfl
    generalize axisTime d v a = T at trapezoid ⊢
    have squares : (100 * d * a + 100 * (v * v)) ^ 2 ≤ (T * (v * a)) ^ 2 := Nat.pow_le_pow_left trapezoid 2
    have mean : 4 * (d * a) * (v * v) ≤ (d * a + v * v) ^ 2 := by
      zify; nlinarith [sq_nonneg ((d : Int) * a - v * v)]
    have scaled : 40000 * d * (v * v * a) ≤ T ^ 2 * a * (v * v * a) := by nlinarith
    exact Nat.le_of_mul_le_mul_right scaled (by positivity)

/-- The trapezoid at scaled limits: with a rate y ≥ w over the move that does not outrun the acceleration A, what holds at w holds at y. -/
theorem trapezoid_faster {d A w y : Nat} (hw : 0 < w) (hwy : w ≤ y) (hy : y * y ≤ d * A) (h : 100 * d * A + 100 * (w * w) ≤ A * w) :
    100 * d * A + 100 * (y * y) ≤ A * y := by
  have hwy2 : w * y ≤ d * A := (Nat.mul_le_mul_right y hwy).trans hy
  zify at *
  have gap : 0 ≤ ((y : Int) - w) * (d * A - w * y) := mul_nonneg (by omega) (by omega)
  have times : (w : Int) * (100 * d * A + 100 * (y * y)) ≤ w * (A * y) := by nlinarith
  exact le_of_mul_le_mul_left times hw

/-- The trapezoid at the full limits, stretched to the axis time: a stronger acceleration keeps it. -/
theorem trapezoid_stronger {d v a T A : Nat} (ha : 0 < a) (h : 100 * d * a + 100 * (v * v) ≤ T * (v * a)) (hA : a * T ^ 2 ≤ A) :
    100 * d * A + 100 * (v * T * (v * T)) ≤ A * (v * T) := by
  have room : 100 * d ≤ v * T := by
    refine Nat.le_of_mul_le_mul_right (c := a) ?_ ha
    nlinarith
  obtain ⟨k, hk⟩ := Nat.exists_eq_add_of_le room
  have rest : 100 * (v * v) ≤ k * a := by nlinarith
  have square : 100 * (v * T * (v * T)) ≤ A * k := by
    calc 100 * (v * T * (v * T)) = 100 * (v * v) * T ^ 2 := by ring
      _ ≤ k * a * T ^ 2 := Nat.mul_le_mul_right _ rest
      _ = a * T ^ 2 * k := by ring
      _ ≤ A * k := Nat.mul_le_mul_right _ hA
  calc 100 * d * A + 100 * (v * T * (v * T)) ≤ 100 * d * A + A * k := Nat.add_le_add_left square _
    _ = A * (v * T) := by rw [hk]; ring

/-- Where the full limits give a triangle, the scaled limits over the move keep the trapezoid's bound. -/
theorem whole_of_turnsBack {d v a T A y : Nat} (hT : 0 < T) (enough : 40000 * d ≤ T ^ 2 * a) (hr : d * a < v * v)
    (rate : v * T ≤ y) (hy : y * y ≤ d * A) : 100 * d * A + 100 * (y * y) ≤ A * y := by
  have far : 200 * d ≤ v * T := by
    by_contra hlt
    have short : (v * T) ^ 2 < (200 * d) ^ 2 := Nat.pow_lt_pow_left (not_le.mp hlt) (by decide)
    have : 40000 * d * d ≤ T ^ 2 * a * d := Nat.mul_le_mul_right _ enough
    have : d * a * T ^ 2 < v * v * T ^ 2 := Nat.mul_lt_mul_of_pos_right hr (by positivity)
    nlinarith
  have : 200 * d * A ≤ A * y := by
    rw [mul_comm _ A]; exact Nat.mul_le_mul_left _ (far.trans rate)
  nlinarith

/-- R32: at the scaled rate and acceleration the axis takes no longer than the move. -/
theorem scaled_axisTime_le {d v a move v' a' : Nat} (hd : 0 < d) (hv : 0 < v) (ha : 0 < a) (hm : 0 < move) (hv' : 0 < v')
    (ha' : 0 < a') (rate : v * axisTime d v a ≤ v' * move) (accel : a * axisTime d v a ^ 2 ≤ a' * move ^ 2) :
    axisTime d v' a' ≤ move := by
  obtain ⟨hT, enough⟩ := axisTime_enough hd hv ha
  rcases Nat.lt_or_ge (d * a') (v' * v') with hr' | hr'
  · rw [axisTime_le_iff_of_turnsBack hd ha' hr']
    nlinarith
  · rw [axisTime_le_iff_of_reaches hd hv' ha' hr']
    have hy : v' * move * (v' * move) ≤ d * (a' * move ^ 2) := by
      calc v' * move * (v' * move) = v' * v' * move ^ 2 := by ring
        _ ≤ d * a' * move ^ 2 := Nat.mul_le_mul_right _ hr'
        _ = d * (a' * move ^ 2) := by ring
    have whole : 100 * d * (a' * move ^ 2) + 100 * (v' * move * (v' * move)) ≤ a' * move ^ 2 * (v' * move) := by
      rcases Nat.lt_or_ge (d * a) (v * v) with hr | hr
      · exact whole_of_turnsBack hT enough hr rate hy
      · have trapezoid := (axisTime_le_iff_of_reaches hd hv ha hr _).mp le_rfl
        refine trapezoid_faster (Nat.mul_pos hv hT) (by rw [mul_comm] at rate ⊢; linarith) hy ?_
        exact trapezoid_stronger ha trapezoid accel
    have : (100 * d * a' + 100 * (v' * v')) * move ^ 2 ≤ move * (v' * a') * move ^ 2 := by nlinarith
    exact Nat.le_of_mul_le_mul_right this (by positivity)

/-- R32: a scaled limit lies between 1 and the full one. -/
theorem ceilDiv_within {x n m : Nat} (hx : 0 < x) (hn : 0 < n) (hm : n ≤ m) : 1 ≤ ceilDiv (x * n) m ∧ ceilDiv (x * n) m ≤ x := by
  have pos : 0 < m := hn.trans_le hm
  refine ⟨Nat.pos_of_ne_zero fun e => ?_, (ceilDiv_le_iff pos _ _).mpr (Nat.mul_le_mul_left x hm)⟩
  have := le_ceilDiv_mul pos (x * n)
  rw [e, Nat.zero_mul] at this
  exact absurd (Nat.mul_pos hx hn) (Nat.not_lt.mpr this)

/-- R32: the scaled acceleration, with the squares written as squares. -/
theorem scaledAccel_eq (x axis move : Nat) :
    scaledAccel x axis move = if axis = 0 then 0 else ceilDiv (x * axis ^ 2) (move ^ 2) := by
  rw [pow_two, pow_two]; rfl

/-- Settles O50: the formulas of R32, then the bounds by rounding up, then the axis time by its two shapes. -/
theorem scaledProfileFitsTheMove : Obligations.ScaledProfileFitsTheMove := by
  unfold Obligations.ScaledProfileFitsTheMove
  refine ⟨fun x axis move => ⟨rfl, scaledAccel_eq x axis move⟩, fun s p move start => ⟨rfl, rfl, rfl, rfl, rfl⟩,
    fun d v a move hd hv ha hle => ?_⟩
  have hT := (axisTime_enough hd hv ha).1
  have hm : 0 < move := hT.trans_le hle
  have rate : scaledRate v (axisTime d v a) move = ceilDiv (v * axisTime d v a) move := if_neg hT.ne'
  have accel : scaledAccel a (axisTime d v a) move = ceilDiv (a * axisTime d v a ^ 2) (move ^ 2) := by
    rw [scaledAccel_eq, if_neg hT.ne']
  have rateWithin := ceilDiv_within hv hT hle
  have accelWithin := ceilDiv_within ha (Nat.pow_pos hT) (Nat.pow_le_pow_left hle 2)
  dsimp only
  rw [rate, accel]
  exact ⟨rateWithin, accelWithin, scaled_axisTime_le hd hv ha hm rateWithin.1 accelWithin.1 (le_ceilDiv_mul hm _)
    (le_ceilDiv_mul (Nat.pow_pos hm) _)⟩

end Machine
end Sys2Proof
end

section
/-! PROOFS. What each request and each event keeps, operation by operation, in the order of the model's files. `KeepsLaws` is what whole
events keep: MeltLaw as it stands, where an operation inside an event may need a guard. -/

namespace Sys2Proof
namespace Machine

/-- What an event keeps: the laws of power and melt as they stand, and the rest. -/
structure KeepsLaws (s t : State) : Prop extends KeepsRest s t where
  power : PowerLaw s → PowerLaw t
  melt  : MeltLaw s → MeltLaw t

theorem Keeps.laws {s t : State} (h : Keeps s t) : KeepsLaws s t :=
  { h.toKeepsRest with power := h.power, melt := fun l => (meltLaw_iff t).mpr (h.melt _ ((meltLaw_iff s).mp l)) }

theorem KeepsLaws.refl (s : State) : KeepsLaws s s := (Keeps.refl s).laws

theorem KeepsLaws.trans {s t u : State} (h : KeepsLaws s t) (k : KeepsLaws t u) : KeepsLaws s u :=
  { h.toKeepsRest.trans k.toKeepsRest with power := fun l => k.power (h.power l), melt := fun l => k.melt (h.melt l) }

/-- The pieces that power and melt read and the other laws do not. -/
theorem keepsRest_melt {s t : State}
    (h : t = { s with
      drive := s.drive, grants := t.grants, feed := t.feed, circuits := t.circuits, meltWeather := t.meltWeather, serveDue := t.serveDue }) :
    KeepsRest s t := by
  rw [h]; exact { KeepsRest.refl s with }

theorem keepsLaws_foldl {α : Type} (f : α → State → State) (step : ∀ a s, KeepsLaws s (f a s)) (l : List α) (s : State) :
    KeepsLaws s (l.foldl (fun t a => f a t) s) :=
  foldl_keeps (P := KeepsLaws s) _ (fun _ a h => h.trans (step a _)) l s (.refl s)

/-! ### Melt (Chapter 7) -/

theorem zoneSample_keeps (z : ZoneNo) (temp : Option Int) (status : ChanStatus) (s : State) : Keeps s (zoneSample z temp status s) :=
  modWeather_keeps _ s

theorem precipSample_keeps (k : SensorNo) (wet : Bool) (s : State) : Keeps s (precipSample k wet s) := modWeather_keeps _ s

theorem closeArrears_keeps (d : DishNo) (s : State) : Keeps s (closeArrears d s) := modCircuit_keeps d _ s fun _ => ⟨rfl, rfl⟩

theorem judgeIced_keeps (d : DishNo) (s : State) : Keeps s (judgeIced d s) := by
  have judged := modCircuit_keeps d (fun c => { c with iced := judgedIced s.settings.iceLimit s.circuits[d].arrears s.circuits[d].iced }) s
    fun _ => ⟨rfl, rfl⟩
  unfold judgeIced; dsimp only; split
  · exact judged.trans (raise_keeps _ _ _)
  · exact judged

theorem scheduleWindow_keeps (d : DishNo) (s : State) : Keeps s (scheduleWindow d s) := by
  have reopened := modCircuit_keeps d (fun c => { c with ownOpened := false }) s fun _ => ⟨rfl, rfl⟩
  unfold scheduleWindow; dsimp only; split
  · exact reopened
  · split
    · exact reopened.trans (closeWindow_keeps d _)
    · exact reopened.trans (modCircuit_keeps d _ _ fun _ => ⟨rfl, rfl⟩)

/-- The guard without the grant of one dish. -/
def MeltGuard.without (G : MeltGuard) (d : DishNo) : MeltGuard := { G with granted := fun e => e ≠ d ∧ G.granted e }

/-- The guard without any grant. -/
def MeltGuard.ungranted (G : MeltGuard) : MeltGuard := { G with granted := fun _ => False }

/-- A guard that asks for less. -/
theorem MeltOn.mono {G H : MeltGuard} {s : State} (h : MeltOn G s) (hg : ∀ d, H.granted d → G.granted d)
    (hc : ∀ d, H.covered d → G.covered d) (hs : ∀ d, H.shed d → G.shed d) : MeltOn H s := fun d =>
  ⟨fun x => (h d).granted (hg d x), (h d).demand, (h d).forced, fun x => (h d).covered (hc d x), fun x => (h d).shed (hs d x)⟩

theorem MeltOn.without {G : MeltGuard} {s : State} (h : MeltOn G s) (d : DishNo) : MeltOn (G.without d) s :=
  h.mono (fun _ x => x.2) (fun _ x => x) fun _ x => x

/-- A circuit changed: what is asked of the other dishes stays. -/
theorem meltOn_modCircuit {G : MeltGuard} {d : DishNo} {f : Circuit → Circuit} {s : State} (h : MeltOn (G.without d) s)
    (hd : MeltAt G d s.grants[d] (f s.circuits[d]) (s.coverage d) s.feed.overload) : MeltOn G (s.modCircuit d f) := fun e => by
  by_cases he : e = d
  · subst he; rw [State.modCircuit_same]; exact hd
  · rw [State.modCircuit_other _ _ _ _ he]
    exact ⟨fun x => (h e).granted ⟨he, x⟩, (h e).demand, (h e).forced, (h e).covered, (h e).shed⟩

/-- A grant changed: what is asked of the other dishes stays. -/
theorem meltOn_modGrant {G : MeltGuard} {d : DishNo} {f : MeltGrant → MeltGrant} {s : State} (h : MeltOn (G.without d) s)
    (hd : MeltAt G d (f s.grants[d]) s.circuits[d] (s.coverage d) s.feed.overload) : MeltOn G (s.modGrant d f) := fun e => by
  by_cases he : e = d
  · subst he; rw [State.modGrant_same]; exact hd
  · rw [State.modGrant_other _ _ _ _ he]
    exact ⟨fun x => (h e).granted ⟨he, x⟩, (h e).demand, (h e).forced, (h e).covered, (h e).shed⟩

/-- R131: a demand is at most 16 where the forced duty is, and 0 under MELT coverage. -/
theorem demandOf_le (s : State) (d : DishNo) (h : s.circuits[d].forcedDuty ≤ 16) : s.demandOf d ≤ 16 := by
  unfold State.demandOf
  split
  · exact Nat.zero_le _
  · split
    · exact Nat.zero_le _
    · exact h
    · split
      · exact Nat.zero_le _
      · split
        · exact le_rfl
        · split
          · exact Nat.zero_le _
          · exact Nat.min_le_left _ _

theorem demandOf_covered {s : State} {d : DishNo} (h : (s.coverage d).melt = true) : s.demandOf d = 0 := by
  unfold State.demandOf; rw [h, Bool.or_true, if_pos rfl]

/-- R132: a demand computed afresh keeps all but the grant's place below it. -/
theorem computeDemand_rest (d : DishNo) (s : State) : KeepsRest s (computeDemand d s) := keepsRest_melt rfl

theorem computeDemand_melt {G : MeltGuard} {d : DishNo} {s : State} (h : MeltOn (G.without d) s)
    (hd : G.granted d → s.grants[d].duty ≤ s.demandOf d) : MeltOn G (computeDemand d s) :=
  meltOn_modCircuit h ⟨hd, demandOf_le s d (h d).forced, (h d).forced, fun _ hc => demandOf_covered hc, (h d).shed⟩

/-- R69: lowering a grant to the demand puts it in its place below the demand. -/
theorem lowerToDemand_melt {G : MeltGuard} {d : DishNo} {s : State} (h : MeltOn (G.without d) s) : MeltOn G (lowerToDemand d s) := by
  unfold lowerToDemand; split
  case isTrue hlt =>
    refine (markServe_keeps _).melt G ((refitWindow_keeps d _).melt G (meltOn_modGrant h ?_))
    refine ⟨fun _ => le_rfl, (h d).demand, (h d).forced, (h d).covered, fun x ho => ?_⟩
    have := (h d).shed x ho
    omega
  case isFalse hge =>
    refine fun e => ⟨fun x => ?_, (h e).demand, (h e).forced, (h e).covered, (h e).shed⟩
    by_cases he : e = d
    · subst he; exact Nat.not_lt.mp hge
    · exact (h e).granted ⟨he, x⟩

theorem setModeOf_keeps {duty : Nat} (hduty : duty ≤ 16) (mode : MeltMode) (d : DishNo) (s : State) : Keeps s (setModeOf mode duty d s) := by
  have lowered := lowerToDemand_keeps d (computeDemand d (s.modCircuit d fun c =>
    { c with mode := mode, forcedDuty := if mode = .forced then duty else c.forcedDuty }))
  refine { (keepsRest_melt rfl).trans lowered.toKeepsRest with power := fun l => lowered.power l, melt := fun G l => ?_ }
  refine lowerToDemand_melt (computeDemand_melt ((meltOn_modCircuit (G := G.without d) ((l.without d).without d) ?_).without d)
    fun x => absurd rfl x.1)
  refine ⟨fun x => absurd rfl x.1, (l d).demand, ?_, (l d).covered, (l d).shed⟩
  dsimp only; split
  · exact hduty
  · exact (l d).forced

/-- R134: every demand is computed afresh, the grants left to the boundary. -/
theorem computeDemands_melt {G : MeltGuard} {s : State} (h : MeltOn G.ungranted s) : MeltOn G.ungranted (forDishes computeDemand s) :=
  foldl_keeps (P := MeltOn G.ungranted) _ (fun _ _ l => computeDemand_melt (l.without _) False.elim) allDishes s h

theorem computeDemands_touches (s : State) : forDishes computeDemand s = { s with circuits := (forDishes computeDemand s).circuits } :=
  foldl_keeps (P := fun u : State => u = { s with circuits := u.circuits }) (fun u d => computeDemand d u)
    (fun u d h => congrArg (fun v : State => { v with circuits := (computeDemand d u).circuits }) h) allDishes s rfl

/-- R76 to R78: the grants of a boundary keep every law of power and melt. -/
theorem grantMelt_keeps (s : State) :
    KeepsRest s (grantMelt s) ∧ (PowerLaw s → PowerLaw (grantMelt s)) ∧ (MeltOn MeltGuard.all.ungranted s → MeltLaw (grantMelt s)) := by
  have each := (boundaryGrants_keeps s).2
  have law : MeltOn MeltGuard.all.ungranted s → ∀ d : DishNo,
      MeltAt .all d (boundaryGrants s)[d] s.circuits[d] (s.coverage d) s.feed.overload := fun h d =>
    ⟨fun _ => (each d).1, (h d).demand, (h d).forced, (h d).covered, fun _ => (each d).2.2⟩
  have budget := (boundaryGrants_keeps s).1
  have fits : PowerLaw s → sumDrive s.drive + sumMelt (boundaryGrants s) ≤ s.feed.capacity := fun l => by
    rw [meltBudget_eq] at budget
    unfold PowerLaw at l
    split at budget <;> omega
  have marked (p : Prop) [Decidable p] (u : State) : Keeps u (if p then u.markServe else u) := by
    split
    · exact markServe_keeps u
    · exact .refl u
  unfold grantMelt
  dsimp only
  generalize allDishes.any _ = lower
  have last := marked (lower = true) ({ s with grants := boundaryGrants s }.modFeed fun f => { f with pass2 := dishAfter f.pass2 1 })
  refine ⟨(keepsRest_melt rfl).trans last.toKeepsRest, fun l => last.power (fits l), fun h => last.laws.melt ?_⟩
  exact (meltLaw_iff _).mpr (law h)

/-- R139, R140: the first part of a boundary, by the demands before it. -/
theorem closePeriod_keeps (s : State) : Keeps s (forDishes judgeIced (if s.siteTime = 0 then s else forDishes closeArrears s)) := by
  refine Keeps.trans ?_ (forDishes_keeps _ judgeIced_keeps _)
  split
  · exact .refl s
  · exact forDishes_keeps _ closeArrears_keeps s

/-- R76, R132: the demands of a boundary and its grants. -/
theorem demandAndGrant_keeps (s : State) : KeepsLaws s (grantMelt (forDishes computeDemand s)) := by
  obtain ⟨rest, power, melt⟩ := grantMelt_keeps (forDishes computeDemand s)
  have touches := computeDemands_touches s
  have demands : MeltLaw s → MeltOn MeltGuard.all.ungranted (forDishes computeDemand s) := fun l =>
    computeDemands_melt (((meltLaw_iff s).mp l).mono (fun _ x => x.elim) (fun _ x => x) fun _ x => x)
  generalize forDishes computeDemand s = u at *
  exact { (keepsRest_melt (by rw [touches])).trans rest with
    power := fun l => power (by rw [touches]; exact l), melt := fun l => melt (demands l) }

theorem heaterBoundary_keeps (s : State) : KeepsLaws s (heaterBoundary s) := by
  unfold heaterBoundary
  dsimp only
  refine KeepsLaws.trans ?_ (serveIfDue_keeps _).laws
  refine KeepsLaws.trans ?_ (forDishes_keeps _ scheduleWindow_keeps _).laws
  refine KeepsLaws.trans ?_ (modWeather_keeps _ _).laws
  exact (closePeriod_keeps s).laws.trans (demandAndGrant_keeps _)

/-- R127: the settings replaced. -/
theorem setSettings_keeps (a : LimitsArgs) (s : State) :
    Keeps s ({ s with settings := a.settings }.modFeed fun f => { f with meltFloor := a.meltFloor }) := by
  refine Keeps.trans (t := { s with settings := a.settings }) (keeps_loose rfl fun _ => rfl) ?_
  exact modFeed_keeps _ _ rfl id

theorem replaceSettings_keeps (a : LimitsArgs) (s : State) : Keeps s (replaceSettings a s) := by
  unfold replaceSettings
  dsimp only
  refine Keeps.trans ?_ (forDishes_keeps _ judgeIced_keeps _)
  exact (setSettings_keeps a s).trans (modWeather_keeps _ _)

/-! ### Feed overload and the feed's capacity (R80 to R83) -/

theorem shedCircuit_melt {G : MeltGuard} {d : DishNo} {s : State} (h : MeltOn { G with shed := fun e => e ≠ d ∧ G.shed e } s) :
    MeltOn G (shedCircuit d s) := by
  have zero : MeltOn G (s.modGrant d fun g => { g with duty := 0 }) := fun e => by
    by_cases he : e = d
    · subst he; rw [State.modGrant_same]
      exact ⟨fun _ => Nat.zero_le _, (h e).demand, (h e).forced, (h e).covered, fun _ _ => rfl⟩
    · rw [State.modGrant_other _ _ _ _ he]
      exact ⟨(h e).granted, (h e).demand, (h e).forced, (h e).covered, fun x => (h e).shed ⟨he, x⟩⟩
  have closed := (modCircuit_keeps d (fun c => { c with window := none }) (s.modGrant d fun g => { g with duty := 0 })
    fun _ => ⟨rfl, rfl⟩).melt G zero
  unfold shedCircuit; dsimp only; split
  · exact (postHeat_keeps d false _).melt G closed
  · exact closed

theorem shedCircuit_keeps (d : DishNo) (s : State) : Keeps s (shedCircuit d s) := by
  have zero := (modGrant_keeps d (fun g => { g with duty := 0 }) s ⟨rfl, Nat.zero_le _⟩).trans
    (modCircuit_keeps d (fun c => { c with window := none }) _ fun _ => ⟨rfl, rfl⟩)
  unfold shedCircuit; dsimp only; split
  · exact zero.trans (postHeat_keeps d false _)
  · exact zero

/-- R82: once every circuit of a list has been shed, the flag asks no more of those dishes. -/
theorem shedCircuits_melt {G : MeltGuard} (l : List DishNo) {s : State} (h : MeltOn { G with shed := fun e => e ∉ l ∧ G.shed e } s) :
    MeltOn G (l.foldl (fun t d => shedCircuit d t) s) := by
  induction l generalizing s with
  | nil => exact h.mono (fun _ x => x) (fun _ x => x) fun _ x => ⟨List.not_mem_nil, x⟩
  | cons d l ih =>
    refine ih (shedCircuit_melt (h.mono (fun _ x => x) (fun _ x => x) fun e x => ⟨?_, x.2.2⟩))
    exact fun hm => (List.mem_cons.mp hm).elim x.1 x.2.1

theorem overloadShed_keeps (s : State) : KeepsLaws s (overloadShed s) := by
  have shed := forDishes_keeps _ shedCircuit_keeps (s.modFeed fun f => { f with overload := true, overRun := 0, quietRun := 0 })
  have after := (raise_keeps .feedOverload [] (forDishes shedCircuit
    (s.modFeed fun f => { f with overload := true, overRun := 0, quietRun := 0 }))).trans (markServe_keeps _)
  refine { ((keepsRest_melt rfl).trans shed.toKeepsRest).trans after.toKeepsRest with
    power := fun l => after.power (shed.power l), melt := fun l => ?_ }
  refine (meltLaw_iff _).mpr (after.melt _ (shedCircuits_melt allDishes fun e => ?_))
  have le := (meltLaw_iff s).mp l e
  exact ⟨le.granted, le.demand, le.forced, le.covered, fun x => absurd (mem_allDishes e) x.1⟩

theorem monitorFeed_keeps (raw : Option Raw) (lost : Bool) (s : State) : KeepsLaws s (monitorFeed raw lost s) := by
  have missed : Keeps s (s.modFeed (Feed.missed lost)) := modFeed_keeps _ s (by unfold Feed.missed; dsimp only; split <;> rfl)
    (by unfold Feed.missed; dsimp only; split <;> exact id)
  have measured (load : Nat) : Keeps s (s.modFeed (Feed.measure load)) := modFeed_keeps _ s
    (by unfold Feed.measure; dsimp only; split <;> split <;> rfl) (by unfold Feed.measure; dsimp only; split <;> split <;> exact id)
  unfold monitorFeed
  split
  · exact missed.laws
  · dsimp only
    split
    · split
      · exact ((measured _).trans (modFeed_keeps Feed.cleared _ rfl fun h => absurd h Bool.false_ne_true)).laws
      · exact (measured _).laws
    · split
      · exact (measured _).laws.trans (overloadShed_keeps _)
      · exact (measured _).laws

/-- R80: the capacity replaced, melt shed down to it. -/
theorem takeFeed_keeps {taken : Nat} {s : State} (h : sumDrive s.drive ≤ taken) :
    KeepsLaws s (shed 0 (sumDrive s.drive + sumMelt s.grants - taken) (s.modFeed fun f => { f with capacity := taken })) := by
  have fed : KeepsRest s (s.modFeed fun f => { f with capacity := taken }) := keepsRest_melt rfl
  have melt : MeltLaw s → MeltLaw (s.modFeed fun f => { f with capacity := taken }) := id
  generalize he : sumDrive s.drive + sumMelt s.grants - taken = need
  have shedding := shed_keeps 0 need (s.modFeed fun f => { f with capacity := taken })
  have drive := congrArg State.drive (shed_touches 0 need (s.modFeed fun f => { f with capacity := taken }))
  have feed := congrArg State.feed (shed_touches 0 need (s.modFeed fun f => { f with capacity := taken }))
  refine { fed.trans shedding.toKeepsRest with power := fun _ => ?_, melt := fun l => shedding.laws.melt (melt l) }
  unfold PowerLaw
  rw [drive, feed]
  change sumDrive s.drive + _ ≤ taken
  rcases shed_frees 0 need (s.modFeed fun f => { f with capacity := taken }) with freed | stopped
  · change _ ≤ sumMelt s.grants at freed
    omega
  · have := sumMelt_le_sumFloor (shed_below 0 need (s.modFeed fun f => { f with capacity := taken })) stopped
    rw [sumFloor_zero] at this
    omega

/-! ### Wind (Chapter 6) -/

/-- R104: a cell's hold-down is there while a held reason is. -/
def Cell.HoldLaw (c : Cell) : Prop := c.holdDown.isSome = c.reasons.held

theorem addWind_hold (c : Cell) : c.addWind.HoldLaw := rfl
theorem addGust_hold (c : Cell) : c.addGust.HoldLaw := by simp [Cell.HoldLaw, Cell.addGust, Reasons.held]
theorem addSensor_hold (c : Cell) : c.addSensor.HoldLaw := by simp [Cell.HoldLaw, Cell.addSensor, Reasons.held]

theorem takeIn_hold (v : Nat) {c : Cell} (h : c.HoldLaw) : (c.takeIn v).HoldLaw := by unfold Cell.takeIn; split <;> exact h

theorem judgeWind_hold {c : Cell} (h : c.HoldLaw) : c.judgeWind.HoldLaw := by
  have wind : (if c.limits.stowMean ≤ c.mean then c.addWind else c).HoldLaw := by
    split
    · exact addWind_hold c
    · exact h
  unfold Cell.judgeWind; dsimp only
  generalize (if c.limits.stowMean ≤ c.mean then c.addWind else c) = e at wind ⊢
  split
  · exact addGust_hold e
  · exact wind

theorem countGood_hold {c : Cell} (h : c.HoldLaw) : c.countGood.HoldLaw := by
  unfold Cell.countGood; split
  · exact h
  · split <;> exact h

theorem restartHold_hold {c : Cell} (h : c.HoldLaw) : c.restartHold.HoldLaw := by
  unfold Cell.restartHold; split
  · exact (Option.isSome_map).trans h
  · exact h

theorem goodSample_hold (v : Nat) {c : Cell} (h : c.HoldLaw) : (c.goodSample v).HoldLaw :=
  restartHold_hold (countGood_hold (judgeWind_hold (takeIn_hold v h)))

theorem missedSample_hold (lost : Bool) {c : Cell} (h : c.HoldLaw) : (c.missedSample lost).HoldLaw := by
  unfold Cell.missedSample; split
  · exact addSensor_hold c
  · split <;> exact h

theorem withLimits_hold (l : WindLimits) {c : Cell} (h : c.HoldLaw) : (c.withLimits l).HoldLaw := by
  unfold Cell.withLimits; dsimp only; split
  · exact addWind_hold _
  · exact (Option.isSome_map).trans h

theorem cellSample_keeps (c : CellNo) (speed : Option Nat) (lost : Bool) (s : State) : Keeps s (cellSample c speed lost s) := by
  unfold cellSample
  refine judgeCell_modCell_keeps c _ s fun h => ?_
  split
  · exact goodSample_hold _ h
  · exact missedSample_hold lost h

theorem withLimits_keeps (l : WindLimits) (c : CellNo) (s : State) : Keeps s (judgeCell c (s.modCell c (Cell.withLimits l))) :=
  judgeCell_modCell_keeps c _ s (withLimits_hold l)

theorem forceCell_keeps (c : CellNo) (s : State) : Keeps s (forceCell c s) := judgeCell_modCell_keeps c _ s id

theorem externCell_keeps (c : CellNo) (s : State) : Keeps s (externCell c s) := judgeCell_modCell_keeps c _ s id

theorem releaseCell_keeps (c : CellNo) (s : State) : Keeps s (judgeCell c (s.modCell c fun y =>
    { y with reasons := { y.reasons with forced := false, external := false } })) := judgeCell_modCell_keeps c _ s id

theorem endHold_keeps (c : CellNo) (s : State) : Keeps s (judgeCell c (s.modCell c Cell.endHold)) :=
  judgeCell_modCell_keeps c _ s fun _ => rfl

theorem fullMatch_keeps (s : State) : Keeps s (fullMatch s) := (keeps_foldl _ externCell_keeps _ s).trans (raise_keeps _ _ _)

theorem takeWeatherByte_keeps (b : Byte) (stopBit : Bool) (s : State) : Keeps s (takeWeatherByte b stopBit s) := by
  unfold takeWeatherByte; split
  · exact setDetector_keeps _ s
  · dsimp only; split
    · exact ((setDetector_keeps _ s).trans (fullMatch_keeps _)).trans (serveIfDue_keeps _)
    · exact setDetector_keeps _ s

/-! ### The drive bus (Chapter 9) -/

/-- A bus record whose list, slot and link stay, and whose transaction under way stays. -/
theorem modBus_keeps_lines (d : DishNo) (f : BusRecord → BusRecord) (s : State)
    (hf : ∀ b, (f b).orders = b.orders ∧ (f b).heat = b.heat ∧ (f b).link = b.link ∧ (f b).inFlight = b.inFlight) :
    Keeps s (s.modBus d f) := by
  obtain ⟨ho, hh, hl, hi⟩ := hf s.bus[d]
  refine modBus_keeps d f s (fun h => ?_) (by rw [hi])
  unfold BusRecord.Ordered; rw [ho, hh, hl]; exact h

theorem countDown_keeps (d : DishNo) (s : State) : Keeps s (countDown d s) := by
  unfold countDown; split
  · exact modBus_keeps_lines d _ s fun _ => ⟨rfl, rfl, rfl, rfl⟩
  · exact .refl s

theorem beginPoll_keeps (g : SegNo) (s : State) : Keeps s (beginPoll g s) :=
  (modEngine_keeps g _ s).trans (keeps_foldl _ countDown_keeps _ _)

theorem refusedReply_keeps (d : DishNo) (o : Observed) (s : State) : Keeps s (refusedReply d o s) := by
  unfold refusedReply; dsimp only; split
  · exact (cutDish_keeps d _ _ s).trans (startQuiet_keeps d _)
  · exact cutDish_keeps d _ _ s

theorem stopEnded_keeps (d : DishNo) (s : State) : Keeps s (stopEnded d s) := by
  have released := releaseDrive_keeps d s
  unfold stopEnded; dsimp only; split
  · exact released.trans (setMotion_keeps d _ _)
  · split
    · exact ((released.trans (setMotion_keeps d _ _)).trans (modMember_keeps _ d _ _)).trans (judgeGroup_keeps _ _)
    · exact released.trans (settle_keeps d _)

theorem stoppingReply_keeps (d : DishNo) (o : Observed) (s : State) : Keeps s (stoppingReply d o s) := by
  unfold stoppingReply; split
  · exact stopEnded_keeps d s
  · split
    · exact cutDish_keeps d _ _ s
    · exact .refl s

theorem memberArrives_keeps (g : GroupNo) (d : DishNo) (s : State) : Keeps s (memberArrives g d s) :=
  ((modMember_keeps g d _ s).trans (releaseDrive_keeps d _)).trans (judgeGroup_keeps g _)

theorem memberReply_keeps (d : DishNo) (o : Observed) (took : Bool) (s : State) : Keeps s (memberReply d o took s) := by
  unfold memberReply; split
  · exact .refl s
  · split
    · exact cutDish_keeps d _ _ s
    · split
      · exact .refl s
      · split
        · exact memberArrives_keeps _ d s
        · exact cutDish_keeps d _ _ s

theorem stowArrives_keeps (d : DishNo) (s : State) : Keeps s (stowArrives d s) := by
  have arrived := ((setMotion_keeps d .stowed s).trans (setStowMove_keeps d none _)).trans (releaseDrive_keeps d _)
  unfold stowArrives; dsimp only; split
  · exact arrived
  · exact arrived.trans (settle_keeps d _)

theorem stowingReply_keeps (d : DishNo) (o : Observed) (took : Bool) (s : State) : Keeps s (stowingReply d o took s) := by
  unfold stowingReply; split
  · exact cutDish_keeps d _ _ s
  · split
    · split
      · exact stowArrives_keeps d s
      · exact cutDish_keeps d _ _ s
    · exact .refl s

theorem returnReply_keeps (d : DishNo) (o : Observed) (s : State) : Keeps s (returnReply d o s) := by
  unfold returnReply; split
  · refine Keeps.trans (goStopping_keeps d false s) ?_
    exact modDish_keeps d _ _ fun _ => rfl
  · exact (setMotion_keeps d _ s).trans (releaseDrive_keeps d _)

theorem cutReply_keeps (d : DishNo) (o : Observed) (s : State) : Keeps s (cutReply d o s) := by
  unfold cutReply; split
  · split
    · exact startQuiet_keeps d s
    · exact .refl s
  · exact modDish_keeps d _ s fun _ => rfl

theorem watchedReply_keeps (d : DishNo) (r : Reply) (took isReturn : Bool) (s : State) : Keeps s (watchedReply d r took isReturn s) := by
  unfold watchedReply; split
  · exact refusedReply_keeps d _ s
  · split
    · exact stoppingReply_keeps d _ s
    · exact memberReply_keeps d _ _ s
    · exact stowingReply_keeps d _ _ s
    · split
      · exact returnReply_keeps d _ s
      · exact .refl s
    · exact cutReply_keeps d _ s
    · exact .refl s

/-- Turning the tags of a dish changes their states alone. -/
theorem turnTags_bare (d : DishNo) (old new : TagState) (s : State) (k : TagNo) :
    (turnTags d old new s).tags[k].map Tag.bare = s.tags[k].map Tag.bare := by
  have at_k : (turnTags d old new s).tags[k] = s.tags[k].map fun t => if t.dish = d ∧ t.state = old then { t with state := new } else t := by
    unfold turnTags; simp [Vector.getElem_map]
  rw [at_k, Option.map_map]
  congr 1
  funext t
  dsimp only [Function.comp]
  split <;> rfl

theorem turnTags_keeps (d : DishNo) (old new : TagState) (s : State) : Keeps s (turnTags d old new s) :=
  keeps_tags rfl (turnTags_bare d old new s)

theorem holdTags_keeps (d : DishNo) (s : State) : Keeps s (holdTags d s) := by
  unfold holdTags; split
  · exact .refl s
  · exact (turnTags_keeps d _ _ s).trans (raise_keeps _ _ _)

theorem judgeTags_keeps (d : DishNo) (r : Reply) (took isReturn : Bool) (before s : State) :
    Keeps s (judgeTags d r took isReturn before s) := by
  unfold judgeTags; split
  · exact turnTags_keeps d _ _ s
  · split
    · exact holdTags_keeps d s
    · exact .refl s

theorem returnHeat_keeps (d : DishNo) (isReturn : Bool) (s : State) : Keeps s (returnHeat d isReturn s) := by
  unfold returnHeat; split
  · exact postHeat_keeps d _ s
  · exact .refl s

theorem handleReply_keeps (d : DishNo) (r : Reply) (took isReturn : Bool) (s : State) : Keeps s (handleReply d r took isReturn s) := by
  unfold handleReply; dsimp only
  refine ((Keeps.trans (Keeps.trans ?_ (watchedReply_keeps d r took isReturn _)) (judgeTags_keeps d r took isReturn _ _)).trans
    (returnHeat_keeps d isReturn _)).trans (serveIfDue_keeps _)
  exact modDish_keeps d _ s fun _ => rfl

theorem setpointTaken_keeps (d : DishNo) (sp : Setpoint) (began : Nat) (s : State) : Keeps s (setpointTaken d sp began s) := by
  unfold setpointTaken; split
  · unfold slewTaken; split
    · split
      · exact modMember_keeps _ d _ s
      · exact .refl s
    · exact .refl s
  · unfold stowTaken; split
    · exact setStowMove_keeps d _ s
    · exact .refl s

theorem orderShape_tail {l : List Order} (h : orderShape l = true) : orderShape l.tail = true := by
  rcases orderShape_cases h with rfl | ⟨sp, rfl⟩ | rfl | ⟨sp, rfl⟩ | rfl <;> rfl

/-- A list that may be emptied stays ordered. -/
theorem BusRecord.Ordered.of_le {b c : BusRecord} (h : b.Ordered) (hl : c.link = b.link) (ho : c.orders = b.orders ∨ c.orders = [] ∨ c.orders = b.orders.tail)
    (hh : c.heat = b.heat ∨ c.heat = none) : c.Ordered := by
  refine ⟨?_, fun l => ?_⟩
  · rcases ho with e | e | e <;> rw [e]
    · exact h.1
    · rfl
    · exact orderShape_tail h.1
  · obtain ⟨e1, e2⟩ := h.2 (hl ▸ l)
    refine ⟨?_, ?_⟩
    · rcases ho with e | e | e <;> rw [e]
      · exact e1
      · rw [e1]; rfl
    · rcases hh with e | e <;> rw [e]
      exact e2

theorem acceptedReply_keeps (d : DishNo) (x : InFlight) (r : Reply) (s : State) : Keeps s (acceptedReply d x r s) := by
  have counted : Keeps s (s.modBus d fun b => { b.countGood.dropSent x with fresh := false }) := by
    refine modBus_keeps d _ s (fun h => h.of_le ?_ ?_ ?_) ?_ <;> unfold BusRecord.dropSent <;> dsimp only <;> split
    · split <;> rfl
    · split <;> rfl
    · rfl
    · split
      · exact .inl rfl
      · exact .inr (.inr rfl)
    · split <;> exact .inl rfl
    · exact .inl rfl
    · split <;> exact .inl rfl
    · split
      · exact .inl rfl
      · exact .inr rfl
    · exact .inl rfl
    · split <;> rfl
    · split <;> rfl
    · rfl
  unfold acceptedReply; dsimp only
  refine Keeps.trans ?_ (handleReply_keeps d r _ _ _)
  split
  · exact counted.trans (setpointTaken_keeps d _ _ _)
  · exact counted

theorem rejectedReply_keeps (d : DishNo) (x : InFlight) (r : Reply) (s : State) : Keeps s (rejectedReply d x r s) := by
  unfold rejectedReply
  refine Keeps.trans ?_ (handleReply_keeps d r _ _ _)
  generalize s.dishes[d].motion.refusalCuts = cuts
  have lists (b : BusRecord) : ((b.dropRefused x cuts).orders = b.orders ∨ (b.dropRefused x cuts).orders = []) ∧
      ((b.dropRefused x cuts).heat = b.heat ∨ (b.dropRefused x cuts).heat = none) := by
    unfold BusRecord.dropRefused; split
    · exact ⟨.inr rfl, .inl rfl⟩
    · refine ⟨?_, ?_⟩ <;> dsimp only <;> split
      · exact .inr rfl
      · exact .inl rfl
      · exact .inl rfl
      · exact .inr rfl
    · refine ⟨?_, .inl rfl⟩
      dsimp only; split
      · exact .inr rfl
      · exact .inl rfl
  obtain ⟨orders, heat⟩ := lists s.bus[d].countGood
  refine modBus_keeps d _ s (fun h => h.of_le ?_ (orders.imp id .inl) heat) ?_
  · dsimp only; rw [BusRecord.dropRefused_touches]; rfl
  · dsimp only; rw [BusRecord.dropRefused_touches]; rfl

theorem loseLink_keeps (d : DishNo) (s : State) : Keeps s (loseLink d s) := by
  refine ((Keeps.trans ?_ (loseDish_keeps d _)).trans (raise_keeps _ _ _)).trans (serveIfDue_keeps _)
  exact modBus_keeps d _ s (fun _ => ⟨rfl, fun _ => ⟨rfl, rfl⟩⟩) rfl

theorem failedOrder_keeps (d : DishNo) (stage : Stage) (s : State) : Keeps s (failedOrder d stage s) := by
  have counted := modBus_keeps_lines d (fun b => { b with failures := b.failures + 1, lastStage := some stage }) s
    fun _ => ⟨rfl, rfl, rfl, rfl⟩
  unfold failedOrder; dsimp only; split
  · exact counted.trans (loseLink_keeps d _)
  · exact counted

theorem endTransaction_keeps (d : DishNo) (x : InFlight) (out : Judged) (s : State) : Keeps s (endTransaction d x out s) := by
  unfold endTransaction; split
  · split
    · exact rejectedReply_keeps d x _ s
    · exact acceptedReply_keeps d x _ s
  · exact modBus_keeps d _ s (fun h => ⟨h.1, fun l => absurd l (by simp)⟩) rfl
  · split
    · exact modBus_keeps_lines d _ s fun _ => ⟨rfl, rfl, rfl, rfl⟩
    · exact failedOrder_keeps d _ s

end Machine
end Sys2Proof
end

section
/-! PROOFS. What the requests keep: the dish and group requests, an accepted start, the tags' effects, RESET COORDINATION's blocks. -/

namespace Sys2Proof
namespace Machine

/-! ### Dish requests (Chapter 1) -/

/-- R2: a description within TABLE 1.1, and a present dish. -/
theorem describePresent_keeps (d : DishNo) {desc : Description} (h : desc.InTable) (s : State) : Keeps s (describePresent d desc s) := by
  have described : Keeps s (s.modDish d fun r => { r with present := true, desc := desc }) := by
    refine { Keeps.refl s with descriptions := fun l e => ?_ }
    by_cases he : e = d
    · subst he; rw [State.modDish_same]; exact h
    · rw [State.modDish_other _ _ _ _ he]; exact l e
  unfold describePresent; dsimp only; split
  · exact described
  · exact described.trans (modBus_keeps d _ _ (fun _ => ⟨rfl, fun _ => ⟨rfl, rfl⟩⟩) rfl)

/-- TABLE 1.2: the defaults lie within TABLE 1.1. -/
theorem default_inTable : Description.default.InTable := by unfold Description.InTable Description.default; decide

/-- A circuit without a grant reserves nothing. -/
theorem sumMelt_set_zero (v : Vector MeltGrant 48) (d : DishNo) : sumMelt (v.set d ⟨0, 0⟩) ≤ sumMelt v := by
  have hset := sumMelt_set v d ⟨0, 0⟩
  have zero : (⟨0, 0⟩ : MeltGrant).reservation = 0 := rfl
  omega

/-- R68, R141: a circuit without demand, window, grant and rate. -/
theorem darken_keeps (d : DishNo) (s : State) :
    Keeps s ((s.modCircuit d fun c => { c with demand := 0, window := none }).modGrant d fun _ => ⟨0, 0⟩) := by
  refine { keepsRest_melt (s := s) rfl with power := fun l => (Nat.add_le_add_left (sumMelt_set_zero _ _) _).trans l, melt := fun G l => ?_ }
  refine meltOn_modGrant (meltOn_modCircuit (G := G.without d) ((l.without d).without d) ?_) ?_
  · exact ⟨fun x => absurd rfl x.1, Nat.zero_le _, (l d).forced, fun _ _ => rfl, (l d).shed⟩
  · rw [State.modCircuit_same]
    exact ⟨fun _ => Nat.zero_le _, Nat.zero_le _, (l d).forced, fun _ _ => rfl, fun _ _ => rfl⟩

/-- R2, R68, R141, R176: a dish made not present. -/
theorem describeAbsent_keeps (d : DishNo) (s : State) : Keeps s (describeAbsent d s) := by
  have absent : Keeps s (s.modDish d fun r => { r with present := false, desc := Description.default, observed := none }) := by
    refine { Keeps.refl s with descriptions := fun l e => ?_ }
    by_cases he : e = d
    · subst he; rw [State.modDish_same]; exact default_inTable
    · rw [State.modDish_other _ _ _ _ he]; exact l e
  have stopped := absent.trans (modBus_keeps d stopVisiting _ (fun _ => ⟨rfl, fun _ => ⟨rfl, rfl⟩⟩)
    (map_began (f := fun x => { x with orphan := true }) (fun _ => rfl) _))
  unfold describeAbsent; dsimp only; split
  · exact stopped.trans (darken_keeps d _)
  · exact (stopped.trans (darken_keeps d _)).trans (markServe_keeps _)

theorem endQuiet_keeps (d : DishNo) (s : State) : Keeps s (endQuiet d s) := by
  unfold endQuiet; split
  · exact modDish_keeps d _ s fun _ => rfl
  · exact settle_keeps d s

/-! ### Group requests (Chapter 3) -/

theorem enlist_keeps (g : GroupNo) (gr : Group) (d : DishNo) (offsets : Option Angles) (s : State) :
    Keeps s (enlist g gr d offsets s) := by
  unfold enlist
  refine Keeps.trans ?_ (setGroup_keeps g _ _)
  exact modDish_keeps d _ s fun _ => rfl

theorem dropEntry_keeps (g : GroupNo) (d : DishNo) (s : State) : Keeps s (dropEntry g d s) :=
  (modGroup_keeps g _ s).trans (settle_keeps d _)

theorem haltMember_keeps (g : GroupNo) (m : Member) (s : State) : Keeps s (haltMember g m s) := by
  unfold haltMember; split
  · exact (goStopping_keeps _ _ s).trans (modMember_keeps g _ _ _)
  · exact .refl s

theorem halt_keeps (g : GroupNo) (gr : Group) (s : State) : Keeps s (halt g gr s) := by
  unfold halt
  dsimp only
  refine Keeps.trans ?_ (judgeGroup_keeps g _)
  exact (keeps_foldl (fun m t => haltMember g m t) (haltMember_keeps g) gr.members s).trans (modGroup_keeps g _ _)

theorem disbandMembers_keeps (ms : List Member) (s : State) : Keeps s (ms.foldl (fun t m => settle m.dish t) s) :=
  keeps_foldl (fun (m : Member) (t : State) => settle m.dish t) (fun m t => settle_keeps m.dish t) ms s

/-! ### An accepted start (R31, R46, R47) -/

/-- R31: one member's grant, its load beside all that is reserved. -/
theorem carryMember_keeps (move start : Nat) (p : MemberPlan) (s : State)
    (fits : sumDrive s.drive + loadTerm p move + sumMelt s.grants ≤ s.feed.capacity) : Keeps s (carryMember move start p s) := by
  unfold carryMember
  refine Keeps.trans ?_ (postMotion_keeps p.dish _ _)
  refine Keeps.trans ?_ (grantDrive_keeps (fits.trans (Nat.le_add_right _ _)))
  exact modDish_keeps p.dish _ s fun _ => rfl

/-- R31: one member's grant adds at most its load term. -/
theorem sumDrive_carryMember (move start : Nat) (p : MemberPlan) (s : State) :
    sumDrive (carryMember move start p s).drive ≤ sumDrive s.drive + loadTerm p move := by
  have hset := sumDrive_set s.drive p.dish (DriveRes.withKind .slew ⟨loadTerm p move, none⟩)
  rw [withKind_level] at hset
  have drive : (carryMember move start p s).drive = s.drive.set p.dish (DriveRes.withKind .slew ⟨loadTerm p move, none⟩) := by
    unfold carryMember; rw [postMotion_touches]; rfl
  rw [drive]
  dsimp only at hset
  omega

theorem carryMember_grants (move start : Nat) (p : MemberPlan) (s : State) : (carryMember move start p s).grants = s.grants := by
  unfold carryMember; rw [postMotion_touches]; rfl

theorem carryMember_feed (move start : Nat) (p : MemberPlan) (s : State) : (carryMember move start p s).feed = s.feed := by
  unfold carryMember; rw [postMotion_touches]; rfl

/-- R31: the members' grants fit where their load does, each counted beside what it replaces. -/
theorem carryMembers_keeps (move start : Nat) (ps : List MemberPlan) (s : State)
    (fits : sumDrive s.drive + groupLoad ps move + sumMelt s.grants ≤ s.feed.capacity) :
    Keeps s (ps.foldl (fun t p => carryMember move start p t) s) := by
  induction ps generalizing s with
  | nil => exact .refl s
  | cons p ps ih =>
    have load : groupLoad (p :: ps) move = loadTerm p move + groupLoad ps move := rfl
    have drive := sumDrive_carryMember move start p s
    refine (carryMember_keeps move start p s (by omega)).trans (ih _ ?_)
    rw [carryMember_grants, carryMember_feed]
    omega

theorem startMoving_keeps (g : GroupNo) (gr : Group) (ps : List MemberPlan) (move : Nat) (s : State)
    (fits : (groupLoad ps move : Int) ≤ s.pAvail) : Keeps s (startMoving g gr ps move s) := by
  unfold startMoving
  dsimp only
  refine Keeps.trans ?_ (setGroup_keeps g _ _)
  have room := shed_makes_room s.feed.meltFloor (groupLoad ps move) s fits
  have touches := shed_touches s.feed.meltFloor ((groupLoad ps move : Int) - s.pFree).toNat s
  have drive := congrArg State.drive touches
  have feed := congrArg State.feed touches
  refine Keeps.trans (shed_keeps s.feed.meltFloor ((groupLoad ps move : Int) - s.pFree).toNat s) (carryMembers_keeps move _ ps _ ?_)
  rw [drive, feed]
  dsimp only
  omega

theorem startStill_keeps (g : GroupNo) (gr : Group) (ps : List MemberPlan) (s : State) : Keeps s (startStill g gr ps s) := by
  unfold startStill
  dsimp only
  refine Keeps.trans ?_ (raise_keeps _ _ _)
  refine Keeps.trans ?_ (setGroup_keeps g _ _)
  exact keeps_foldl (fun p t => t.modDish p.dish fun r => { r with targets := some p.target })
    (fun p t => modDish_keeps p.dish (fun r => { r with targets := some p.target }) t fun _ => rfl) ps s

/-! ### RESET COORDINATION (R21, R177) -/

theorem resetDish_keeps (d : DishNo) (s : State) : Keeps s (resetDish d s) := by
  unfold resetDish; split
  · split
    · exact goStopping_keeps d _ s
    · exact modDish_keeps d _ s fun _ => rfl
  · exact modDish_keeps d _ s fun _ => rfl
  · exact .refl s

theorem dropSlews_ordered {b : BusRecord} (h : b.Ordered) : b.dropSlews.Ordered := by
  refine ⟨?_, fun l => ?_⟩
  · change orderShape (b.orders.filter fun o => !o.isSlew) = true
    rcases orderShape_cases h.1 with e | ⟨sp, e⟩ | e | ⟨sp, e⟩ | e <;> rw [e]
    · rfl
    · rw [List.filter_cons]; split <;> rfl
    · rfl
    · rw [List.filter_cons, if_pos (by rfl), List.filter_cons]; split <;> rfl
    · rfl
  · obtain ⟨ho, hh⟩ := h.2 l
    refine ⟨?_, hh⟩
    change b.orders.filter _ = []
    rw [ho]; rfl

theorem dropSlews_keeps (s : State) : Keeps s { s with bus := s.bus.map BusRecord.dropSlews } := by
  refine keeps_bus rfl (fun d h => ?_) fun d => ?_
  · dsimp only; simp only [Fin.getElem_fin, Vector.getElem_map]; exact dropSlews_ordered h
  · dsimp only; simp only [Fin.getElem_fin, Vector.getElem_map]; exact map_began (InFlight.loseHead_began _) _

theorem setGroups_keeps (v : Vector (Option Group) 8) (s : State) : Keeps s { s with groups := v } := keeps_loose rfl fun _ => rfl

theorem resetBlocks_keeps (s : State) : Keeps s (resetBlocks s) := by
  have dishes := forDishes_keeps _ resetDish_keeps s
  unfold resetBlocks
  generalize forDishes resetDish s = u at dishes ⊢
  exact (dishes.trans (setGroups_keeps _ u)).trans (dropSlews_keeps { u with groups := Vector.replicate 8 none })

/-! ### Coverage (R144, R146, R147) -/

/-- The union of a list of coverages, item by item. -/
theorem foldl_union (f : TagNo → Coverage) (l : List TagNo) (c : Coverage) :
    l.foldl (fun c k => c.union (f k)) c =
      ⟨c.az || l.any fun k => (f k).az, c.el || l.any fun k => (f k).el, c.melt || l.any fun k => (f k).melt⟩ := by
  induction l generalizing c with
  | nil => simp
  | cons k l ih => rw [List.foldl_cons, ih]; simp only [Coverage.union, List.any_cons, Bool.or_assoc]

/-- R144: an item of a dish's coverage is what some slot of the table covers of it. -/
theorem coverageIn_eq (tags : Vector (Option Tag) 64) (d : DishNo) :
    coverageIn tags d = ⟨allTags.any fun k => (slotCoverage d tags[k]).az, allTags.any fun k => (slotCoverage d tags[k]).el,
      allTags.any fun k => (slotCoverage d tags[k]).melt⟩ := by
  unfold coverageIn; rw [foldl_union]; simp only [Bool.false_or]

@[simp] theorem mem_allTags (k : TagNo) : k ∈ allTags := List.mem_finRange k

/-- A slot changed that does not name the dish before or after leaves the dish's coverage. -/
theorem coverage_setTag_other {k : TagNo} {o : Option Tag} {d : DishNo} {s : State}
    (h : slotCoverage d o = slotCoverage d s.tags[k]) : (s.setTag k o).coverage d = s.coverage d := by
  unfold State.coverage coverageIn
  congr 1
  funext c i
  by_cases hi : i = k
  · subst hi; rw [State.setTag_same, h]
  · rw [State.setTag_other _ _ _ _ hi]

theorem slotCoverage_other {d : DishNo} {t : Tag} (h : d ≠ t.dish) : slotCoverage d (some t) = slotCoverage d none := by
  exact if_neg (Ne.symm h)

/-- What some slot has after one is emptied, some slot had before. -/
theorem any_emptied {f : Option Tag → Bool} (hf : f none = false) {k : TagNo} {s : State}
    (h : (allTags.any fun i => f (s.setTag k none).tags[i]) = true) : (allTags.any fun i => f s.tags[i]) = true := by
  obtain ⟨i, hi, hc⟩ := List.any_eq_true.mp h
  refine List.any_eq_true.mpr ⟨i, hi, ?_⟩
  by_cases he : i = k
  · subst he; rw [State.setTag_same, hf] at hc; cases hc
  · rwa [State.setTag_other _ _ _ _ he] at hc

/-- Emptying a slot covers no more. -/
theorem coverage_emptied (k : TagNo) (d : DishNo) (s : State) :
    (((s.setTag k none).coverage d).az = true → (s.coverage d).az = true) ∧
    (((s.setTag k none).coverage d).el = true → (s.coverage d).el = true) ∧
    (((s.setTag k none).coverage d).melt = true → (s.coverage d).melt = true) := by
  unfold State.coverage
  rw [coverageIn_eq, coverageIn_eq]
  exact ⟨any_emptied (f := fun o => (slotCoverage d o).az) rfl, any_emptied (f := fun o => (slotCoverage d o).el) rfl,
    any_emptied (f := fun o => (slotCoverage d o).melt) rfl⟩

theorem coverage_emptied_melt {k : TagNo} {d : DishNo} {s : State} (h : ((s.setTag k none).coverage d).melt = true) :
    (s.coverage d).melt = true := (coverage_emptied k d s).2.2 h

theorem takeLock_keeps (d : DishNo) (gained : Coverage) (s : State) : Keeps s (takeLock d gained s) := by
  unfold takeLock; split
  · exact setMotion_keeps d _ s
  · split
    · exact lockMember_keeps _ _ s
    · exact .refl s
  · split
    · exact lockMember_keeps _ _ s
    · exact .refl s
  · split
    · exact (leaveQueue_keeps d s).trans (setMotion_keeps d _ _)
    · exact .refl s
  · split
    · exact goStopping_keeps d _ s
    · exact .refl s
  · exact .refl s

/-- R147: a melt lockout leaves nothing of a dish under MELT coverage to be asked. -/
theorem meltLockout_melt {G : MeltGuard} {d : DishNo} {s : State} (h : MeltOn { G with covered := fun e => e ≠ d ∧ G.covered e } s) :
    MeltOn G (meltLockout d s) := by
  obtain ⟨grants, circuits⟩ := meltLockout_leaves d s
  have coverage : ∀ e, (meltLockout d s).coverage e = s.coverage e := (meltLockout_keeps d s).coverage
  have feed : (meltLockout d s).feed = s.feed := by
    unfold meltLockout; dsimp only; split <;> rw [postHeat_touches] <;> rfl
  intro e
  rw [grants, circuits, coverage, feed]
  by_cases he : e = d
  · subst he
    rw [getElem_set_same, getElem_set_same]
    exact ⟨fun _ => Nat.zero_le _, Nat.zero_le _, (h e).forced, fun _ _ => rfl, fun _ _ => rfl⟩
  · rw [getElem_set_other _ _ _ _ he, getElem_set_other _ _ _ _ he]
    exact ⟨(h e).granted, (h e).demand, (h e).forced, fun x => (h e).covered ⟨he, x⟩, (h e).shed⟩

theorem gainCoverage_keeps (d : DishNo) (gained : Coverage) (s : State) : Keeps s (gainCoverage d gained s) := by
  have locked : Keeps s (if gained.motion then serveIfDue (takeLock d gained s) else s) := by
    split
    · exact (takeLock_keeps d gained s).trans (serveIfDue_keeps _)
    · exact .refl s
  unfold gainCoverage; dsimp only; split
  · exact locked.trans (meltLockout_keeps d _)
  · exact locked

/-- R146, R147: where MELT coverage has just been gained, its effects make up for it. -/
theorem gainCoverage_melt {G : MeltGuard} {d : DishNo} {gained : Coverage} {s : State}
    (h : MeltOn (if gained.melt then { G with covered := fun e => e ≠ d ∧ G.covered e } else G) s) :
    MeltOn G (gainCoverage d gained s) := by
  have locked : Keeps s (if gained.motion then serveIfDue (takeLock d gained s) else s) := by
    split
    · exact (takeLock_keeps d gained s).trans (serveIfDue_keeps _)
    · exact .refl s
  unfold gainCoverage; dsimp only; split at h
  case isTrue hm => rw [if_pos hm]; exact meltLockout_melt (locked.melt _ h)
  case isFalse hm => rw [if_neg hm]; exact locked.melt _ h

theorem setTagState_keeps (k : TagNo) (st : TagState) (s : State) : Keeps s (setTagState k st s) := by
  refine keeps_tags rfl fun i => ?_
  by_cases hi : i = k
  · subst hi; unfold setTagState; rw [State.setTag_same, Option.map_map]; rfl
  · unfold setTagState; rw [State.setTag_other _ _ _ _ hi]

end Machine
end Sys2Proof
end

section
/-! PROOFS. What a whole command keeps: `EventKeeps` for the clocks, the tags, the conditions and every law between commands, the beginning
and the end of a request's run, and the scan. -/

namespace Sys2Proof
namespace Machine

/-! ### What a command keeps -/

/-- Which of the pieces that only few commands change a command leaves: the array clock, the tags that stand, the slots that are empty, the
conditions raised. -/
structure Fixed where
  clock      : Prop
  held       : Prop
  vacant     : Prop
  conditions : Prop

/-- What a command keeps beside the port's room. -/
structure EventKeeps (a : Fixed) (s t : State) : Prop where
  pending      : t.pending = s.pending
  siteTime     : t.siteTime = s.siteTime
  arrayClock   : a.clock → t.arrayClock = s.arrayClock
  held         : a.held → ∀ (k : TagNo) (x : Tag), s.tags[k] = some x → t.tags[k].map Tag.bare = some x.bare
  vacant       : a.vacant → ∀ k : TagNo, s.tags[k] = none → t.tags[k] = none
  conditions   : a.conditions → ConditionsGrow s.port t.port
  power        : PowerLaw s → PowerLaw t
  melt         : MeltLaw s → MeltLaw t
  items        : ItemsLaw s → ItemsLaw t
  kinds        : KindLaw s → KindLaw t
  orders       : OrderLaw s → OrderLaw t
  descriptions : DescriptionLaw s → DescriptionLaw t
  cells        : CellLaw s → CellLaw t
  lines        : LineLaw s → LineLaw t
  scan         : ScanLaw s → ScanLaw t

theorem EventKeeps.refl (a : Fixed) (s : State) : EventKeeps a s s where
  pending := rfl
  siteTime := rfl
  arrayClock _ := rfl
  held _ k x h := by rw [h]; rfl
  vacant _ _ h := h
  conditions _ _ := ⟨id, fun _ => id⟩
  power := id
  melt := id
  items := id
  kinds := id
  orders := id
  descriptions := id
  cells := id
  lines := id
  scan := id

/-- A tag of the same record, its state apart. -/
theorem exists_bare {o : Option Tag} {x : Tag} (h : o.map Tag.bare = some x.bare) : ∃ y, o = some y ∧ y.bare = x.bare := by
  cases o with
  | none => cases h
  | some y => exact ⟨y, rfl, Option.some.inj h⟩

theorem EventKeeps.trans {a : Fixed} {s t u : State} (h : EventKeeps a s t) (k : EventKeeps a t u) : EventKeeps a s u where
  pending := k.pending.trans h.pending
  siteTime := k.siteTime.trans h.siteTime
  arrayClock x := (k.arrayClock x).trans (h.arrayClock x)
  held x i y hy := by
    obtain ⟨z, hz, e⟩ := exists_bare (h.held x i y hy)
    rw [← e]; exact k.held x i z hz
  vacant x i hi := k.vacant x i (h.vacant x i hi)
  conditions x i :=
    ⟨fun f => (k.conditions x i).1 ((h.conditions x i).1 f), fun n hn => (k.conditions x i).2 n ((h.conditions x i).2 n hn)⟩
  power l := k.power (h.power l)
  melt l := k.melt (h.melt l)
  items l := k.items (h.items l)
  kinds l := k.kinds (h.kinds l)
  orders l := k.orders (h.orders l)
  descriptions l := k.descriptions (h.descriptions l)
  cells l := k.cells (h.cells l)
  lines l := k.lines (h.lines l)
  scan l := k.scan (h.scan l)

/-! ### The lines and the scan -/

/-- When the transaction of a dish began, if one is under way. -/
def State.flight (s : State) (d : DishNo) : Option Nat := s.bus[d].inFlight.map InFlight.began

/-- LineLaw reads of the bus records no more than when their transactions began. -/
theorem lineLaw_iff (s : State) : LineLaw s ↔
    (∀ d e : DishNo, segOf d = segOf e → (s.flight d).isSome = true → (s.flight e).isSome = true → d = e) ∧
    ∀ d : DishNo, ∀ b ∈ s.flight d, b = s.siteTime ∨ b + 1 = s.siteTime := by
  unfold LineLaw State.flight
  simp only [Option.isSome_map, Option.mem_def, Option.map_eq_some_iff]
  refine and_congr_right fun _ => forall_congr' fun d => ⟨?_, ?_⟩
  · rintro h b ⟨x, hx, rfl⟩; exact h x hx
  · exact fun h x hx => h x.began ⟨x, hx, rfl⟩

theorem lineLaw_congr {s t : State} (hf : ∀ d, t.flight d = s.flight d) (ht : t.siteTime = s.siteTime) (l : LineLaw s) : LineLaw t := by
  rw [lineLaw_iff] at *
  simp only [hf, ht]
  exact l

/-- ScanLaw for a scan at a site time. -/
structure ScanAt (now : Nat) (x : Scan) : Prop where
  round    : ∀ r ∈ x.round, r.start = now ∧ x.converter ≠ .idle
  channel  : x.converter = .channel → x.round.isSome = true
  spot     : x.converter = .spot ↔ ∃ p ∈ x.spot, p.converting = true
  waiting  : ∀ p ∈ x.spot, p.converting = false → x.converter = .channel ∨ x.converter = .dropped
  crossed  : x.crossed = true → x.converter = .spot ∨ x.converter = .dropped

theorem scanLaw_iff (s : State) : ScanLaw s ↔ ScanAt s.siteTime s.scan :=
  ⟨fun ⟨h1, h2, h3, h4, h5⟩ => ⟨h1, h2, h3, h4, h5⟩, fun h => ⟨h.round, h.channel, h.spot, h.waiting, h.crossed⟩⟩

theorem scanLaw_congr {s t : State} (h : t.scan = s.scan) (ht : t.siteTime = s.siteTime) (l : ScanLaw s) : ScanLaw t := by
  rw [scanLaw_iff] at *
  rw [h, ht]
  exact l

/-- What keeps the laws of events keeps what commands keep. -/
theorem KeepsLaws.event (a : Fixed) {s t : State} (h : KeepsLaws s t) : EventKeeps a s t where
  pending := h.pending
  siteTime := h.siteTime
  arrayClock _ := h.arrayClock
  held _ k x hx := by rw [h.tags k, hx]; rfl
  vacant _ k hk := by
    have := h.tags k
    rw [hk] at this
    exact Option.map_eq_none_iff.mp this
  conditions _ := h.conditions
  power := h.power
  melt := h.melt
  items := h.items
  kinds := h.kinds
  orders := h.orders
  descriptions := h.descriptions
  cells := h.cells
  lines := lineLaw_congr h.flights h.siteTime
  scan := scanLaw_congr h.scan h.siteTime

/-- What touches the port alone, and no condition. -/
theorem portOnly_event (a : Fixed) {s t : State} (h : t = { s with port := t.port }) (hc : t.port.conditions = s.port.conditions) :
    EventKeeps a s t := by
  rw [h]
  refine { EventKeeps.refl a s with conditions := fun _ k => ?_, items := fun l k => ?_ }
  · dsimp only; rw [hc]; exact ⟨id, fun _ => id⟩
  · dsimp only; rw [hc]; exact l k

/-- A scan changed, as the law asks, keeps all else. -/
theorem modScan_event (a : Fixed) (f : Scan → Scan) (s : State) (hf : ScanAt s.siteTime s.scan → ScanAt s.siteTime (f s.scan)) :
    EventKeeps a s (s.modScan f) :=
  { EventKeeps.refl a s with scan := fun l => (scanLaw_iff _).mpr (hf ((scanLaw_iff s).mp l)) }

/-- R96: after a conversion has ended, with no spot converting, what is taken up keeps the scan's law. -/
theorem goOn_scanAt {now : Nat} {x : Scan} (hr : ∀ r ∈ x.round, r.start = now) (hs : ∀ p ∈ x.spot, p.converting = false) :
    ScanAt now x.goOn := by
  unfold Scan.goOn
  split
  case h_1 p hp =>
    rw [if_neg (by rw [hs p hp]; exact Bool.false_ne_true)]
    exact ⟨fun r h => ⟨hr r h, nofun⟩, nofun, iff_of_true rfl ⟨_, rfl, rfl⟩, fun q hq hw => (by cases hq; cases hw), nofun⟩
  case h_2 hp =>
    have none (p : Spot) : p ∉ x.spot := by rw [hp]; exact Option.not_mem_none p
    refine ⟨fun r h => ⟨hr r h, ?_⟩, fun h => ?_, ⟨fun h => ?_, fun ⟨p, h, _⟩ => absurd h (none p)⟩, fun p h => absurd h (none p), nofun⟩
    · have : x.round.isSome = true := Option.isSome_iff_exists.mpr ⟨r, h⟩
      rw [Scan.takeUp_converter, if_pos this]; nofun
    · rw [Scan.takeUp_converter] at h
      rw [Scan.takeUp_round]
      split at h
      · assumption
      · cases h
    · rw [Scan.takeUp_converter] at h; split at h <;> cases h

/-- R96: no spot converts while the converter is at something else. -/
theorem ScanAt.not_converting {now : Nat} {x : Scan} (h : ScanAt now x) (hc : x.converter ≠ .spot) (p : Spot) (hp : p ∈ x.spot) :
    p.converting = false := by
  rw [← Bool.not_eq_true]
  exact fun he => hc (h.spot.mpr ⟨p, hp, he⟩)

/-! ### The beginning and the end of a run (R183 to R187) -/

/-- Outstanding requests and waiting answers. -/
def State.load (s : State) : Nat := s.outstanding + s.waiting

/-- What a run's body leaves of requests and answers, its own answer counted and itself no more. -/
def Reckoned.load (out : Reckoned) : Nat :=
  out.1.port.queue.length + out.1.scan.spot.toList.length + out.1.port.answers.length + out.2.toList.length

/-- What the body of a request keeps, its run under way. -/
structure RunKeeps (a : Fixed) (s : State) (out : Reckoned) : Prop where
  event : EventKeeps a s out.1
  serve : ServeLaw s → ServeLaw out.1
  queue : out.1.port.queue.length ≤ s.port.queue.length
  load  : s.port.running.isSome = true → Reckoned.load out ≤ s.load

/-- What a command keeps. -/
structure CommandKeeps (a : Fixed) (s t : State) : Prop where
  event : EventKeeps a s t
  serve : ServeLaw s → ServeLaw t
  room  : PortLaw s → PortLaw t

theorem CommandKeeps.refl (a : Fixed) (s : State) : CommandKeeps a s s := ⟨.refl a s, id, id⟩

/-- The running request is outstanding. -/
theorem load_running {s : State} (h : s.port.running.isSome = true) :
    s.load = s.port.queue.length + s.scan.spot.toList.length + s.port.answers.length + 1 := by
  obtain ⟨r, hr⟩ := Option.isSome_iff_exists.mp h
  unfold State.load State.outstanding State.waiting
  rw [hr, Option.toList_some, List.length_singleton]
  omega

/-- At most one answer. -/
theorem toList_length_le {α : Type} (o : Option α) : o.toList.length ≤ 1 := by cases o <;> simp

/-- A body that keeps the laws and marks no serve. -/
theorem KeepsLaws.run (a : Fixed) {s t : State} (h : KeepsLaws s t) (hs : ServeLaw s → ServeLaw t) (ans : Option (Status × List Byte)) :
    RunKeeps a s (t, ans) where
  event := h.event a
  serve := hs
  queue := by rw [h.port]
  load hr := by
    have hp : t.port.queue = s.port.queue ∧ t.port.answers = s.port.answers := by rw [h.port]; exact ⟨rfl, rfl⟩
    rw [load_running hr]
    unfold Reckoned.load
    rw [hp.1, hp.2, h.scan]
    have := toList_length_le ans
    dsimp only
    omega

/-- A body that changes nothing. -/
theorem RunKeeps.same (a : Fixed) (s : State) (ans : Option (Status × List Byte)) : RunKeeps a s (s, ans) := (KeepsLaws.refl s).run a id ans

/-- A body that ends with its serve. -/
theorem serveIfDue_off (s : State) : (serveIfDue s).serveDue = false := by
  unfold serveIfDue; split
  · rw [serve_touches]
  · exact Bool.not_eq_true _ ▸ ‹¬ s.serveDue = true›

theorem serve_off (s : State) : (serve s).serveDue = false := by rw [serve_touches]

theorem KeepsLaws.command (a : Fixed) {s t : State} (h : KeepsLaws s t) (hs : ServeLaw s → ServeLaw t) : CommandKeeps a s t where
  event := h.event a
  serve := hs
  room l := by
    unfold PortLaw State.outstanding State.waiting at *
    rw [h.port, h.scan]
    exact l

/-- R183: a frame is taken only where there is room. -/
theorem takeFrame_keeps (a : Fixed) (r : Request) (s : State) : CommandKeeps a s (takeFrame r s) := by
  refine ⟨portOnly_event a (takeFrame_touches r s) ?_, ?_, ?_⟩
  · unfold takeFrame; split
    · rfl
    · split <;> rfl
  · rw [takeFrame_touches]; exact id
  · unfold takeFrame; split
    · exact id
    · split
      · exact id
      case isFalse room =>
        rw [Bool.or_eq_true, decide_eq_true_eq, decide_eq_true_eq, not_or] at room
        obtain ⟨hq, hl⟩ := room
        have q : (Config.requestSlots : Nat) = 4 := rfl
        have w : (Config.answerSlots : Nat) = 8 := rfl
        intro l
        unfold PortLaw State.outstanding State.waiting at *
        simp only [State.modPort_port, State.modPort_scan, List.length_append, List.length_singleton]
        omega

theorem begun_keeps (a : Fixed) {r : Request} {s : State} (h : Turn r s) : CommandKeeps a s (s.begun r) := by
  refine ⟨portOnly_event a (begun_touches r s) ?_, ?_, ?_⟩
  · unfold State.begun; split <;> rfl
  · rw [begun_touches]; exact id
  · unfold State.begun; split
    · exact id
    case isFalse hn =>
      obtain ⟨hr, hq⟩ := h.resolve_left hn
      intro l
      obtain ⟨rest, hq⟩ := List.head?_eq_some_iff.mp hq
      unfold PortLaw State.outstanding State.waiting at *
      simp only [State.modPort_port, State.modPort_scan, hr, hq, List.tail_cons, List.length_cons, Option.toList_some, Option.toList_none,
        List.length_nil] at *
      omega

theorem CommandKeeps.trans {a : Fixed} {s t u : State} (h : CommandKeeps a s t) (k : CommandKeeps a t u) : CommandKeeps a s u :=
  ⟨h.event.trans k.event, fun l => k.serve (h.serve l), fun l => k.room (h.room l)⟩

/-- R185: a request command first leaves a run begun, or its frame held. -/
theorem beginRequest_keeps (a : Fixed) (r : Request) (s : State) :
    (∃ u, beginRequest r s = .run u ∧ CommandKeeps a s u ∧ u.port.running = some r) ∨
    (∃ u, beginRequest r s = .held u ∧ CommandKeeps a s u) := by
  by_cases h : Turn r s
  · exact .inl ⟨_, beginRequest_turn r s h, begun_keeps a h, begun_running r s⟩
  · rw [beginRequest_elsewhere r s h]
    split
    case isTrue ht => exact .inl ⟨_, rfl, (takeFrame_keeps a r s).trans (begun_keeps a ((turnOf_iff r _).mp ht)), begun_running r _⟩
    case isFalse => exact .inr ⟨_, rfl, takeFrame_keeps a r s⟩

/-- R185, R187: the end of a run keeps what its body kept, and its answer takes the room of the request. -/
theorem endRequest_keeps {a : Fixed} {s : State} {out : Reckoned} (r : Request) (h : RunKeeps a s out) (hr : s.port.running.isSome = true) :
    CommandKeeps a s (endRequest r out) := by
  refine ⟨h.event.trans (portOnly_event a rfl rfl), fun l => h.serve l, fun l => ?_⟩
  have load := h.load hr
  have queue := h.queue
  unfold State.load Reckoned.load at load
  obtain ⟨t, ans⟩ := out
  unfold PortLaw endRequest State.outstanding State.waiting at *
  cases ans <;> simp_all only [State.modPort_port, State.modPort_scan, Option.toList_none, Option.toList_some, List.length_nil,
    List.length_append, List.length_singleton] <;> omega

/-- R185, R186: a request command keeps what its body keeps. -/
theorem request_keeps {a : Fixed} {r : Request} {body : State → Reckoned} {s t : State} (hb : ∀ u, RunKeeps a u (body u))
    (h : runRequest r body s = .next t) : CommandKeeps a s t := by
  unfold runRequest at h
  rcases beginRequest_keeps a r s with ⟨u, e, kept, running⟩ | ⟨u, e, kept⟩
  · rw [e] at h
    injection h with h
    rw [← h]
    have hr : u.port.running.isSome = true := by rw [running]; rfl
    refine kept.trans (endRequest_keeps r ?_ hr)
    split
    · exact hb u
    · exact RunKeeps.same a u _
  · rw [e] at h
    injection h with h
    rw [← h]; exact kept

end Machine
end Sys2Proof
end

section
/-! PROOFS. Every command keeps what the statements ask of it: the bodies of the requests, the events, and the commands together. -/

namespace Sys2Proof
namespace Machine

/-! ### Settling (R6) -/

/-- The motion state that settling gives (R6): the first that applies. -/
def State.settlesTo (s : State) (d : DishNo) : MotionState :=
  if s.stowDemand d && !(s.coverage d).el then .stowQueued else if (s.coverage d).motion then .locked else .free

/-- What settling clears of a record. -/
def DishRecord.settledTo (m : MotionState) (r : DishRecord) : DishRecord :=
  { r with motion := m, group := none, targets := none, cutReason := none, quiet := none, quietStopped := false, returnMark := false }

theorem settle_eq (d : DishNo) (s : State) :
    settle d s = { s with
      dishes := s.dishes.set d (s.dishes[d].settledTo (s.settlesTo d))
      stowQueue := if s.settlesTo d = .stowQueued then s.stowQueue ++ [d] else s.stowQueue
      serveDue := if s.settlesTo d = .stowQueued then true else s.serveDue } := by
  have twice (m : MotionState) (f : DishRecord → DishRecord) (hf : { f s.dishes[d] with motion := m } = s.dishes[d].settledTo m) :
      setMotion d m (s.modDish d f) = { s with dishes := s.dishes.set d (s.dishes[d].settledTo m) } := by
    unfold setMotion State.modDish
    dsimp only
    rw [getElem_set_same, hf]
    congr 1
    exact Vector.set_set ..
  unfold settle State.settlesTo
  dsimp only
  split
  · rw [if_pos rfl, if_pos rfl]
    unfold joinQueue
    rw [twice _ _ rfl]
    rfl
  · split
    · exact twice _ _ rfl
    · exact twice _ _ rfl

/-! ### What only marks no serve -/

theorem judgeGroup_serveDue (g : GroupNo) (s : State) : (judgeGroup g s).serveDue = s.serveDue := by rw [judgeGroup_touches]

theorem goStopping_serveDue (d : DishNo) (keep : Bool) (s : State) : (goStopping d keep s).serveDue = s.serveDue := by rw [goStopping_touches]

theorem closeWindow_serveDue (d : DishNo) (s : State) : (closeWindow d s).serveDue = s.serveDue := by rw [closeWindow_touches]

theorem openWindow_serveDue (d : DishNo) (s : State) : (openWindow d s).serveDue = s.serveDue := by rw [openWindow_touches]

/-- What each of a list leaves of the mark, all leave. -/
theorem serveDue_foldl {α : Type} (f : State → α → State) (h : ∀ s a, (f s a).serveDue = s.serveDue) (l : List α) (s : State) :
    (l.foldl f s).serveDue = s.serveDue :=
  foldl_keeps (P := fun t : State => t.serveDue = s.serveDue) f (fun t a e => (h t a).trans e) l s rfl

theorem forDishes_serveDue (f : DishNo → State → State) (h : ∀ s d, (f d s).serveDue = s.serveDue) (s : State) :
    (forDishes f s).serveDue = s.serveDue := serveDue_foldl (fun t d => f d t) h allDishes s

theorem haltMember_serveDue (g : GroupNo) (s : State) (m : Member) : (haltMember g m s).serveDue = s.serveDue := by
  unfold haltMember; split
  · exact goStopping_serveDue m.dish true s
  · rfl

theorem halt_serveDue (g : GroupNo) (gr : Group) (s : State) : (halt g gr s).serveDue = s.serveDue :=
  (judgeGroup_serveDue g _).trans (serveDue_foldl _ (haltMember_serveDue g) gr.members s)

theorem postMotion_serveDue (d : DishNo) (o : Order) (s : State) : (postMotion d o s).serveDue = s.serveDue := by rw [postMotion_touches]

theorem carryMember_serveDue (move start : Nat) (s : State) (p : MemberPlan) : (carryMember move start p s).serveDue = s.serveDue :=
  postMotion_serveDue p.dish _ _

theorem startMoving_serveDue (g : GroupNo) (gr : Group) (ps : List MemberPlan) (move : Nat) (s : State) :
    (startMoving g gr ps move s).serveDue = s.serveDue := by
  refine (serveDue_foldl _ (carryMember_serveDue move (s.siteTime + Config.groupLead)) ps (shedForStart (groupLoad ps move) s)).trans ?_
  unfold shedForStart
  rw [shed_touches]

theorem startStill_serveDue (g : GroupNo) (gr : Group) (ps : List MemberPlan) (s : State) : (startStill g gr ps s).serveDue = s.serveDue :=
  serveDue_foldl (fun (t : State) (p : MemberPlan) => t.modDish p.dish fun r => { r with targets := some p.target }) (fun _ _ => rfl) ps s

theorem judgeIced_serveDue (s : State) (d : DishNo) : (judgeIced d s).serveDue = s.serveDue := by
  unfold judgeIced; dsimp only; split <;> rfl

theorem resetDish_serveDue (s : State) (d : DishNo) : (resetDish d s).serveDue = s.serveDue := by
  unfold resetDish; split
  · split
    · exact goStopping_serveDue d _ s
    · rfl
  · rfl
  · rfl

/-! ### The bodies of the requests -/

/-- Every number asked for lies within TABLE 1.1. -/
theorem checkDescription_inTable {f : DescribeFields} {desc : Description} (h : checkDescription f = some desc) : desc.InTable := by
  unfold checkDescription at h
  simp only [Option.bind_eq_bind, Option.bind_eq_some_iff] at h
  obtain ⟨cell, -, zone, -, h⟩ := h
  split at h
  case isTrue hc =>
    injection h with h
    rw [← h]
    simp only [Bool.and_eq_true, decide_eq_true_eq, inRange] at hc
    unfold Description.InTable
    dsimp only
    omega
  case isFalse => cases h

theorem describeWish_inTable {a : DescribeArgs} {desc : Description} (h : describeWish a = some (some desc)) : desc.InTable := by
  unfold describeWish at h
  split at h
  · cases h
  · obtain ⟨x, hx, e⟩ := Option.map_eq_some_iff.mp h
    cases e
    exact checkDescription_inTable hx
  · cases h

variable {a : Fixed}

theorem describe_runs (x : DescribeArgs) (s : State) : RunKeeps a s (describe x s) := by
  unfold describe
  split
  case h_1 d wish _ hw =>
    split
    · exact .same a s _
    · split
      case h_1 desc => 
        refine (describePresent_keeps d (describeWish_inTable hw) s).laws.run a ?_ _
        unfold describePresent; dsimp only; split <;> exact id
      case h_2 =>
        split
        · exact ((describeAbsent_keeps d s).trans (serveIfDue_keeps _)).laws.run a (fun _ => serveIfDue_off _) _
        · exact .same a s _
  · exact .same a s _

theorem resume_runs (n : Nat) (s : State) : RunKeeps a s (resume n s) := by
  unfold resume
  split
  · exact .same a s _
  · split
    · exact .same a s _
    · split
      · exact .same a s _
      · split
        · exact .same a s _
        · split
          · exact ((settle_keeps _ s).trans (serveIfDue_keeps _)).laws.run a (fun _ => serveIfDue_off _) _
          · exact .same a s _

theorem restrain_runs (n : Nat) (s : State) : RunKeeps a s (restrain n s) := by
  unfold restrain
  split
  · exact .same a s _
  · split
    · exact .same a s _
    · split
      · exact (setMotion_keeps _ _ s).laws.run a id _
      · exact (setMotion_keeps _ _ s).laws.run a id _
      · exact .same a s _
      · exact .same a s _

theorem lookUpDish_runs (n : Nat) (s : State) : RunKeeps a s (lookUpDish n s) := by
  unfold lookUpDish; split <;> exact .same a s _

theorem writeOff_runs (n : Nat) (s : State) : RunKeeps a s (writeOff n s) := by
  unfold writeOff
  split
  · exact .same a s _
  · split
    · exact .same a s _
    · split
      · exact .same a s _
      · exact ((releaseDrive_keeps _ s).trans (serveIfDue_keeps _)).laws.run a (fun _ => serveIfDue_off _) _

theorem openGroup_runs (x : TargetArgs) (s : State) : RunKeeps a s (openGroup x s) := by
  unfold openGroup
  split
  · exact .same a s _
  · split
    · exact .same a s _
    · split
      · exact .same a s _
      · exact (setGroup_keeps _ _ s).laws.run a id _

theorem addMember_runs (x : AddArgs) (s : State) : RunKeeps a s (addMember x s) := by
  unfold addMember
  split
  · split
    · exact .same a s _
    · split
      · exact .same a s _
      · split_ifs
        · exact .same a s _
        · exact .same a s _
        · exact .same a s _
        · exact .same a s _
        · exact .same a s _
        · exact .same a s _
        · exact (enlist_keeps _ _ _ _ s).laws.run a id _
  · exact .same a s _

theorem dropMember_runs (m n : Nat) (s : State) : RunKeeps a s (dropMember m n s) := by
  unfold dropMember
  split
  · split
    · exact .same a s _
    · split
      · exact .same a s _
      · split
        · exact .same a s _
        · exact ((dropEntry_keeps _ _ s).trans (serveIfDue_keeps _)).laws.run a (fun _ => serveIfDue_off _) _
  · exact .same a s _

theorem aimGroup_runs (x : TargetArgs) (s : State) : RunKeeps a s (aimGroup x s) := by
  unfold aimGroup
  split
  · exact .same a s _
  · split
    · exact .same a s _
    · split
      · exact .same a s _
      · split
        · exact .same a s _
        · exact (setGroup_keeps _ _ s).laws.run a id _

theorem planStart_runs (g : GroupNo) (gr : Group) (s : State) : RunKeeps a s (planStart g gr s) := by
  unfold planStart
  dsimp only
  split
  · exact .same a s _
  · split
    · exact (startStill_keeps g gr _ s).laws.run a (fun l => (startStill_serveDue g gr _ s).trans l) _
    case isFalse still =>
      split
      · exact .same a s _
      case h_2 move hm =>
        exact (startMoving_keeps g gr _ move s (chooseTime_spec (Nat.pos_of_ne_zero still) hm).1).laws.run a
          (fun l => (startMoving_serveDue g gr _ move s).trans l) _

theorem startGroup_runs (n : Nat) (s : State) : RunKeeps a s (startGroup n s) := by
  unfold startGroup
  split
  · exact .same a s _
  · split
    · exact .same a s _
    · split_ifs
      · exact .same a s _
      · exact .same a s _
      · exact .same a s _
      · exact .same a s _
      · exact .same a s _
      · exact planStart_runs _ _ s

theorem haltGroup_runs (n : Nat) (s : State) : RunKeeps a s (haltGroup n s) := by
  unfold haltGroup
  split
  · exact .same a s _
  · split
    · exact .same a s _
    · dsimp only
      split
      · exact (halt_keeps _ _ s).laws.run a (fun l => (halt_serveDue _ _ s).trans l) _
      · exact .same a s _

theorem disbandGroup_runs (n : Nat) (s : State) : RunKeeps a s (disbandGroup n s) := by
  unfold disbandGroup
  split
  · exact .same a s _
  · split
    · exact .same a s _
    · split
      · exact .same a s _
      · exact (((disbandMembers_keeps _ s).trans (setGroup_keeps _ _ _)).trans (serveIfDue_keeps _)).laws.run a
          (fun _ => serveIfDue_off _) _

theorem lookUpGroup_runs (n : Nat) (s : State) : RunKeeps a s (lookUpGroup n s) := by
  unfold lookUpGroup; split
  · exact .same a s _
  · split <;> exact .same a s _

theorem setFeed_runs (n : Nat) (s : State) : RunKeeps a s (setFeed n s) := by
  unfold setFeed
  dsimp only
  split
  · exact .same a s _
  case isFalse h => exact ((takeFeed_keeps (Nat.not_lt.mp h)).trans (serve_keeps _).laws).run a (fun _ => serve_off _) _

theorem lookUpBudget_runs (s : State) : RunKeeps a s (lookUpBudget s) := .same a s _

/-- R95, R96: the scan once a spot has been accepted. -/
def Scan.acceptSpot (label : Byte) (k : ChanNo) (x : Scan) : Scan :=
  if x.converter = .idle then { x with spot := some ⟨label, k, true⟩ }.takeUp .spot else { x with spot := some ⟨label, k, false⟩ }

theorem acceptSpot_scanAt {now : Nat} {x : Scan} (label : Byte) (k : ChanNo) (free : x.spot = none) (l : ScanAt now x) :
    ScanAt now (x.acceptSpot label k) := by
  unfold Scan.acceptSpot
  split
  case isTrue idle =>
    have none (r : Round) : r ∉ x.round := fun hm => (l.round r hm).2 idle
    exact ⟨fun r hm => absurd hm (none r), nofun, iff_of_true rfl ⟨_, rfl, rfl⟩, fun p hp hw => (by cases hp; cases hw), nofun⟩
  case isFalse busy =>
    have away : x.converter ≠ .spot := fun e => by
      obtain ⟨p, hp, -⟩ := l.spot.mp e
      rw [free] at hp; cases hp
    refine ⟨l.round, l.channel, iff_of_false away ?_, fun _ _ _ => ?_, l.crossed⟩
    · rintro ⟨p, hp, hc⟩
      cases hp; cases hc
    · cases hc : x.converter
      · exact absurd hc busy
      · exact .inl rfl
      · exact absurd hc away
      · exact .inr rfl

@[simp] theorem acceptSpot_spot (label : Byte) (k : ChanNo) (x : Scan) : (x.acceptSpot label k).spot.toList.length = 1 := by
  unfold Scan.acceptSpot; split <;> rfl

theorem spotReading_runs (label : Byte) (n : Nat) (s : State) : RunKeeps a s (spotReading label n s) := by
  unfold spotReading
  split
  · exact .same a s _
  · split
    · exact .same a s _
    case h_2 k _ _ =>
      rename_i h
      have free : s.scan.spot = none := by simpa using h
      change RunKeeps a s (s.modScan (Scan.acceptSpot label k), none)
      refine ⟨modScan_event a _ s (acceptSpot_scanAt label k free), id, le_rfl, fun hr => ?_⟩
      rw [load_running hr, free]
      unfold Reckoned.load
      rw [State.modScan_scan, State.modScan_port, acceptSpot_spot]
      simp only [Option.toList_none, List.length_nil]
      omega

theorem lookUpChannels_runs (s : State) : RunKeeps a s (lookUpChannels s) := .same a s _

theorem setWindLimits_runs (x : WindArgs) (s : State) : RunKeeps a s (setWindLimits x s) := by
  unfold setWindLimits
  split
  · exact .same a s _
  · split
    · exact .same a s _
    · exact ((withLimits_keeps _ _ s).trans (serveIfDue_keeps _)).laws.run a (fun _ => serveIfDue_off _) _

theorem forceStow_runs (n : Nat) (s : State) : RunKeeps a s (forceStow n s) := by
  unfold forceStow
  split
  · exact .same a s _
  · exact ((keeps_foldl _ forceCell_keeps _ s).trans (serveIfDue_keeps _)).laws.run a (fun _ => serveIfDue_off _) _

theorem releaseStow_runs (n : Nat) (s : State) : RunKeeps a s (releaseStow n s) := by
  unfold releaseStow
  split
  · exact .same a s _
  · dsimp only
    split
    · exact .same a s _
    · split
      · exact .same a s _
      · exact ((releaseCell_keeps _ s).trans (serveIfDue_keeps _)).laws.run a (fun _ => serveIfDue_off _) _

theorem setCode_keeps (code : BitVec 16) (s : State) : Keeps s { s with siteCode := code } := keeps_loose rfl fun _ => rfl

theorem setSiteCode_runs (n : Nat) (s : State) : RunKeeps a s (setSiteCode n s) :=
  ((setCode_keeps (BitVec.ofNat 16 n) s).trans (setDetector_keeps (detectorFor (BitVec.ofNat 16 n)) _)).laws.run a id _

theorem lookUpCell_runs (n : Nat) (s : State) : RunKeeps a s (lookUpCell n s) := by
  unfold lookUpCell; split <;> exact .same a s _

theorem spendCount_keeps (s : State) : Keeps s { s with freeCount := s.freeCount + 1 } := keeps_loose rfl fun _ => rfl

theorem setMeltMode_runs (x : ModeArgs) (s : State) : RunKeeps a s (setMeltMode x s) := by
  unfold setMeltMode
  split
  case h_1 ds mode _ _ =>
    split
    · exact .same a s _
    · have set := (keeps_foldl _ (setModeOf_keeps (Nat.min_le_left 16 x.duty) mode) ds s).trans (serveIfDue_keeps _)
      have off := serveIfDue_off (ds.foldl (fun t d => setModeOf mode (min 16 x.duty) d t) s)
      dsimp only
      generalize serveIfDue (ds.foldl (fun t d => setModeOf mode (min 16 x.duty) d t) s) = u at set off ⊢
      split
      · exact set.laws.run a (fun _ => off) _
      · exact (set.trans (spendCount_keeps u)).laws.run a (fun _ => off) _
  · exact .same a s _

theorem setMeltLimits_runs (x : LimitsArgs) (s : State) : RunKeeps a s (setMeltLimits x s) := by
  unfold setMeltLimits
  split
  · exact (replaceSettings_keeps x s).laws.run a (fun l => (serveDue_foldl _ judgeIced_serveDue _ _).trans l) _
  · exact .same a s _

theorem lookUpMelt_runs (n : Nat) (s : State) : RunKeeps a s (lookUpMelt n s) := by
  unfold lookUpMelt; split <;> exact .same a s _

theorem lookUpTag_runs (n : Nat) (s : State) : RunKeeps a s (lookUpTag n s) := by
  unfold lookUpTag; split
  · exact .same a s _
  · split <;> exact .same a s _

theorem listTags_runs (n : Nat) (s : State) : RunKeeps a s (listTags n s) := by
  unfold listTags; split <;> exact .same a s _

/-! ### The requests that change a clock, a tag or the conditions -/

/-- A slot written, and all that follows it within the event. -/
theorem setTag_event {k : TagNo} {o : Option Tag} {s t : State} (after : KeepsRest (s.setTag k o) t)
    (power : PowerLaw (s.setTag k o) → PowerLaw t)
    (held : a.held → ∀ x, s.tags[k] = some x → t.tags[k].map Tag.bare = some x.bare) (vacant : a.vacant → s.tags[k] = none → t.tags[k] = none)
    (melt : MeltLaw s → MeltLaw t) : EventKeeps a s t where
  pending := after.pending
  siteTime := after.siteTime
  arrayClock _ := after.arrayClock
  held h i x hx := by
    by_cases hi : i = k
    · subst hi; exact held h x hx
    · rw [after.tags i, State.setTag_other _ _ _ _ hi, hx]; rfl
  vacant h i hx := by
    by_cases hi : i = k
    · subst hi; exact vacant h hx
    · have := after.tags i
      rw [State.setTag_other _ _ _ _ hi, hx] at this
      exact Option.map_eq_none_iff.mp this
  conditions _ := after.conditions
  power := power
  melt := melt
  items := after.items
  kinds := after.kinds
  orders := after.orders
  descriptions := after.descriptions
  cells := after.cells
  lines := lineLaw_congr after.flights after.siteTime
  scan := scanLaw_congr after.scan after.siteTime

/-- What a body that leaves the port and the scan keeps. -/
theorem EventKeeps.run {s t : State} (h : EventKeeps a s t) (hs : ServeLaw s → ServeLaw t) (hq : t.port.queue = s.port.queue)
    (ha : t.port.answers = s.port.answers) (hc : t.scan = s.scan) (ans : Option (Status × List Byte)) : RunKeeps a s (t, ans) where
  event := h
  serve := hs
  queue := by rw [hq]
  load hr := by
    rw [load_running hr]
    unfold Reckoned.load
    rw [hq, ha, hc]
    have := toList_length_le ans
    dsimp only
    omega

/-- MeltLaw where one slot has been filled: only the dish named may have gained MELT coverage. -/
theorem meltOn_filled {k : TagNo} {t : Tag} {s : State} (hk : s.tags[k] = none) (l : MeltLaw s) :
    MeltOn (if (((s.setTag k (some t)).coverage t.dish).beyond (s.coverage t.dish)).melt then
      { MeltGuard.all with covered := fun e => e ≠ t.dish ∧ True } else MeltGuard.all) (s.setTag k (some t)) := by
  have other (e : DishNo) (he : e ≠ t.dish) : (s.setTag k (some t)).coverage e = s.coverage e :=
    coverage_setTag_other (by rw [hk]; exact slotCoverage_other he)
  have lm := (meltLaw_iff s).mp l
  split
  · refine fun e => ⟨(lm e).granted, (lm e).demand, (lm e).forced, fun x hc => ?_, (lm e).shed⟩
    rw [other e x.1] at hc
    exact (lm e).covered trivial hc
  case isFalse old =>
    refine fun e => ⟨(lm e).granted, (lm e).demand, (lm e).forced, fun _ hc => ?_, (lm e).shed⟩
    refine (lm e).covered trivial ?_
    by_cases he : e = t.dish
    · subst he
      unfold Coverage.beyond at old
      dsimp only at old
      rw [hc] at old
      simpa using old
    · rw [← other e he]; exact hc

theorem fillSlot_keeps (k : TagNo) (t : Tag) (s : State) : Keeps (s.setTag k (some t)) (fillSlot k t s) :=
  ((gainCoverage_keeps _ _ _).trans (setTagState_keeps k _ _)).trans (serveIfDue_keeps _)

theorem fillSlot_event {k : TagNo} {t : Tag} {s : State} (hk : s.tags[k] = none) :
    EventKeeps ⟨True, True, False, True⟩ s (fillSlot k t s) := by
  refine setTag_event (fillSlot_keeps k t s).toKeepsRest (fillSlot_keeps k t s).power (fun _ x hx => ?_) False.elim fun l => ?_
  · rw [hk] at hx; cases hx
  · refine (meltLaw_iff _).mpr (((setTagState_keeps k _ _).trans (serveIfDue_keeps _)).melt _ (gainCoverage_melt ?_))
    exact meltOn_filled hk l

theorem placeTag_runs (x : PlaceArgs) (s : State) : RunKeeps ⟨True, True, False, True⟩ s (placeTag x s) := by
  unfold placeTag
  split
  · split
    · exact .same _ s _
    · split
      · exact .same _ s _
      · split
        · exact .same _ s _
        · split
          · exact .same _ s _
          case h_2 k rest hk =>
            have vacant : s.tags[k] = none := by
              have mem : k ∈ emptySlots s := by rw [hk]; exact List.mem_cons_self
              exact Option.isNone_iff_eq_none.mp (List.mem_filter.mp mem).2
            refine (fillSlot_event vacant).run (fun _ => serveIfDue_off _) ?_ ?_ (fillSlot_keeps k _ s).scan _
            · rw [(fillSlot_keeps k _ s).port]; rfl
            · rw [(fillSlot_keeps k _ s).port]; rfl
  · exact .same _ s _

/-- A dish's settling, where it is made, leaves the grants. -/
theorem loseCoverage_keeps_melt {d : DishNo} {lost : Coverage} {G : MeltGuard} {s : State} (h : MeltOn G s)
    (hd : lost.melt = true → s.grants[d].duty = 0) : MeltOn G (loseCoverage d lost s) := by
  have settled : Keeps s (if lost.motion && s.dishes[d].motion == .locked then settle d s else s) := by
    split
    · exact settle_keeps d s
    · exact .refl s
  have grants : (if lost.motion && s.dishes[d].motion == .locked then settle d s else s).grants = s.grants := by
    split
    · rw [settle_eq]
    · rfl
  unfold loseCoverage
  dsimp only
  generalize (if lost.motion && s.dishes[d].motion == .locked then settle d s else s) = u at settled grants ⊢
  split
  case isTrue hm => exact computeDemand_melt ((settled.melt G h).without d) fun _ => by rw [grants, hd hm]; exact Nat.zero_le _
  case isFalse => exact settled.melt G h

theorem loseCoverage_rest (d : DishNo) (lost : Coverage) (s : State) :
    KeepsRest s (loseCoverage d lost s) ∧ (PowerLaw s → PowerLaw (loseCoverage d lost s)) := by
  have settled : Keeps s (if lost.motion && s.dishes[d].motion == .locked then settle d s else s) := by
    split
    · exact settle_keeps d s
    · exact .refl s
  unfold loseCoverage
  dsimp only
  split
  · exact ⟨settled.toKeepsRest.trans (computeDemand_rest d _), settled.power⟩
  · exact ⟨settled.toKeepsRest, settled.power⟩

theorem emptySlot_rest (k : TagNo) (t : Tag) (s : State) :
    KeepsRest (s.setTag k none) (emptySlot k t s) ∧ (PowerLaw (s.setTag k none) → PowerLaw (emptySlot k t s)) := by
  obtain ⟨rest, power⟩ := loseCoverage_rest t.dish ((s.coverage t.dish).beyond ((s.setTag k none).coverage t.dish)) (s.setTag k none)
  have served := serveIfDue_keeps
    (loseCoverage t.dish ((s.coverage t.dish).beyond ((s.setTag k none).coverage t.dish)) (s.setTag k none))
  exact ⟨rest.trans served.toKeepsRest, fun l => served.power (power l)⟩

/-- R153, R154: a slot emptied keeps MeltLaw: MELT coverage lost leaves a duty of 0. -/
theorem emptySlot_melt (k : TagNo) (t : Tag) (s : State) (l : MeltLaw s) : MeltLaw (emptySlot k t s) := by
  have lm := (meltLaw_iff s).mp l
  have less : MeltOn .all (s.setTag k none) := fun e =>
    ⟨(lm e).granted, (lm e).demand, (lm e).forced, fun x hc => (lm e).covered x (coverage_emptied_melt hc), (lm e).shed⟩
  refine (meltLaw_iff _).mpr ((serveIfDue_keeps _).melt _ (loseCoverage_keeps_melt less fun hm => ?_))
  have covered : (s.coverage t.dish).melt = true := by
    unfold Coverage.beyond at hm
    exact (Bool.and_eq_true_iff.mp hm).1
  have granted := (lm t.dish).granted trivial
  rw [(lm t.dish).covered trivial covered] at granted
  exact Nat.le_zero.mp granted

theorem releaseTag_runs (x : ReleaseArgs) (s : State) : RunKeeps ⟨True, False, True, True⟩ s (releaseTag x s) := by
  unfold releaseTag
  split
  · exact .same _ s _
  case h_2 k _ =>
    split
    · exact .same _ s _
    · split
      · exact .same _ s _
      case h_2 t ht =>
        split
        · exact .same _ s _
        · obtain ⟨rest, power⟩ := emptySlot_rest k t s
          refine (setTag_event rest power False.elim (fun _ hn => ?_) (emptySlot_melt k t s)).run (fun _ => serveIfDue_off _) ?_ ?_
            rest.scan _
          · rw [hn] at ht; cases ht
          · rw [rest.port]; rfl
          · rw [rest.port]; rfl

theorem setClock_event (v : Clock) (s : State) : EventKeeps ⟨False, True, True, True⟩ s { s with arrayClock := v } :=
  { EventKeeps.refl _ s with arrayClock := False.elim }

theorem setClock_runs (n : Nat) (s : State) : RunKeeps ⟨False, True, True, True⟩ s (setClock n s) :=
  (setClock_event (BitVec.ofNat 32 n) s).run id rfl rfl rfl _

/-- Conditions cleared have no items. -/
theorem clearConditions_items (p : Port) (k : Fin 9) : p.clearConditions.conditions[k] = ⟨false, []⟩ := by
  unfold Port.clearConditions; simp

/-- A port whose conditions are cleared. -/
theorem clearPort_event (f : Port → Port) (hf : ∀ p : Port, (f p).conditions = p.clearConditions.conditions) (s : State) :
    EventKeeps ⟨True, True, True, False⟩ s (s.modPort f) := by
  refine { EventKeeps.refl _ s with conditions := False.elim, items := fun _ k => ?_ }
  rw [State.modPort_port, hf, clearConditions_items]; exact .nil

theorem readConditions_runs (s : State) : RunKeeps ⟨True, True, True, False⟩ s (readConditions s) :=
  (clearPort_event Port.clearConditions (fun _ => rfl) s).run id rfl rfl rfl _

theorem dropSpot_scanAt {now : Nat} {x : Scan} (l : ScanAt now x) : ScanAt now x.dropSpot := by
  have none (p : Spot) : p ∉ x.dropSpot.spot := Option.not_mem_none p
  have at_spot : x.dropSpot.converter = if x.converter = .spot then .dropped else x.converter := rfl
  refine ⟨fun r hr => ⟨(l.round r hr).1, ?_⟩, fun h => l.channel ?_, ⟨fun h => ?_, fun ⟨p, hp, _⟩ => absurd hp (none p)⟩,
    fun p hp => absurd hp (none p), fun h => ?_⟩
  · rw [at_spot]
    split
    · nofun
    · exact (l.round r hr).2
  · rw [at_spot] at h
    split at h
    · cases h
    · exact h
  · rw [at_spot] at h
    split at h
    · cases h
    · contradiction
  · rw [at_spot]
    split
    · exact .inr rfl
    · exact l.crossed h

theorem resetCoordination_runs (s : State) : RunKeeps ⟨True, True, True, False⟩ s (resetCoordination s) := by
  have blocks := (resetBlocks_keeps s).laws.event ⟨True, True, True, False⟩
  have serve : (resetBlocks s).serveDue = s.serveDue := by
    unfold resetBlocks
    dsimp only
    exact forDishes_serveDue resetDish resetDish_serveDue s
  unfold resetCoordination
  generalize resetBlocks s = u at blocks serve ⊢
  have scanned := modScan_event ⟨True, True, True, False⟩ Scan.dropSpot u dropSpot_scanAt
  have ported := clearPort_event Port.cleared (fun _ => rfl) (u.modScan Scan.dropSpot)
  refine ⟨(blocks.trans scanned).trans ported, fun l => serve.trans l, Nat.zero_le _, fun hr => ?_⟩
  rw [load_running hr]
  change 0 + 0 + 0 + 1 ≤ _
  omega

/-! ### The events -/

variable {s t : State}

theorem modPort_event (a : Fixed) (f : Port → Port) (s : State) (hf : (f s.port).conditions = s.port.conditions) :
    EventKeeps a s (s.modPort f) := portOnly_event a rfl hf

theorem exchangeBegin_keeps (h : execExchangeBegin s = .next t) : CommandKeeps a s t := by
  injection h with h
  rw [← h]
  split
  · exact .refl a s
  · exact ⟨modPort_event a _ s rfl, id, id⟩

theorem judgeFrame_keeps (bytes : List Byte) (s : State) : CommandKeeps a s (judgeFrame bytes s) := by
  have outcome (o : FrameOutcome) : CommandKeeps a s (setOutcome o s) := ⟨modPort_event a _ s rfl, id, id⟩
  unfold judgeFrame
  dsimp only
  split_ifs
  · exact .refl a s
  · exact outcome _
  · exact outcome _
  · exact takeFrame_keeps a _ s
  · exact outcome _

theorem exchangeEnd_keeps {bytes : List Byte} (h : execExchangeEnd bytes s = .next t) : CommandKeeps a s t := by
  unfold execExchangeEnd at h
  split at h <;> injection h with h <;> rw [← h]
  · exact .refl a s
  case h_2 x _ =>
    refine CommandKeeps.trans ⟨modPort_event a (Port.deliver x bytes.length) s rfl, id, fun l => ?_⟩ (judgeFrame_keeps bytes _)
    have fewer : (s.port.deliver x bytes.length).answers.length ≤ s.port.answers.length := by
      unfold Port.deliver
      dsimp only
      split
      · rw [List.length_tail]; exact Nat.sub_le _ _
      · exact le_rfl
    unfold PortLaw State.outstanding State.waiting at *
    exact ⟨l.1, le_trans (Nat.add_le_add_left fewer _) l.2⟩

theorem unknownRequest_keeps {code label : Byte} {params : List Byte} (h : execUnknownRequest code label params s = .next t) :
    CommandKeeps a s t := by
  unfold execUnknownRequest at h
  split at h
  · injection h with h
    rw [← h]; exact .refl a s
  · rcases beginRequest_keeps a ⟨code, label, params⟩ s with ⟨u, e, kept, running⟩ | ⟨u, e, kept⟩ <;> rw [e] at h <;>
      injection h with h <;> rw [← h]
    · exact kept.trans (endRequest_keeps _ (RunKeeps.same a u _) (by rw [running]; rfl))
    · exact kept

theorem beginRound_scanAt {now : Nat} {x : Scan} (l : ScanAt now x) : ScanAt now (x.beginRound now) := by
  unfold Scan.beginRound
  dsimp only
  split
  case isTrue idle =>
    have still (p : Spot) (hp : p ∈ x.spot) : p.converting = false := l.not_converting (by rw [idle]; nofun) p hp
    refine ⟨fun r hr => ?_, fun _ => rfl, iff_of_false nofun ?_, fun _ _ _ => .inl rfl, nofun⟩
    · rw [Scan.takeUp_round, Option.mem_some_iff] at hr
      rw [← hr]; exact ⟨rfl, nofun⟩
    · rintro ⟨p, hp, hc⟩
      rw [still p hp] at hc; cases hc
  case isFalse busy =>
    refine ⟨fun r hr => ?_, fun _ => rfl, l.spot, l.waiting, l.crossed⟩
    rw [Option.mem_some_iff] at hr
    rw [← hr]; exact ⟨rfl, busy⟩

theorem modScan_command (a : Fixed) (f : Scan → Scan) (s : State) (hf : ScanAt s.siteTime s.scan → ScanAt s.siteTime (f s.scan))
    (hs : (f s.scan).spot.toList.length = s.scan.spot.toList.length) : CommandKeeps a s (s.modScan f) := by
  refine ⟨modScan_event a f s hf, id, fun l => ?_⟩
  unfold PortLaw State.outstanding State.waiting at *
  rw [State.modScan_scan, hs]
  exact l

theorem scanRoundStart_keeps (h : execScanRoundStart s = .next t) : CommandKeeps a s t := by
  injection h with h
  rw [← h]
  split
  · refine modScan_command a _ s beginRound_scanAt ?_
    unfold Scan.beginRound; dsimp only; split <;> rfl
  · exact .refl a s

/-- What is taken up leaves the number of pending spots. -/
theorem goOn_spot (x : Scan) : x.goOn.spot.toList.length = x.spot.toList.length := by
  unfold Scan.goOn
  split
  case h_1 p hp =>
    split
    · rfl
    · rw [hp]; rfl
  · rfl

theorem conversionEnd_keeps {raw : Raw} (h : execConversionEnd raw s = .next t) : CommandKeeps a s t := by
  unfold execConversionEnd at h
  split at h <;> injection h with h <;> rw [← h]
  case h_1 r hc hr =>
    split
    · refine modScan_command a _ s (fun l => goOn_scanAt (fun q hq => ?_) (l.not_converting (by rw [hc]; nofun))) (goOn_spot _)
      rw [← Option.mem_some_iff.mp hq]
      exact (l.round r hr).1
    · exact .refl a s
  · exact .refl a s

theorem handSample_keeps (k : ChanNo) (s : State) : KeepsLaws s (handSample k s) := by
  unfold handSample
  dsimp only
  split
  · exact ((cellSample_keeps _ _ _ s).trans (serveIfDue_keeps _)).laws
  · split
    · exact (zoneSample_keeps _ _ _ s).laws
    · split
      · exact (precipSample_keeps _ _ s).laws
      · exact (monitorFeed_keeps _ _ s).trans (serveIfDue_keeps _).laws

theorem handSample_serve (k : ChanNo) (s : State) (h : s.serveDue = false) : (handSample k s).serveDue = false := by
  unfold handSample
  dsimp only
  split
  · exact serveIfDue_off _
  · split
    · exact h
    · split
      · exact h
      · exact serveIfDue_off _

theorem handSamples_serve (l : List ChanNo) (s : State) (h : s.serveDue = false) :
    (l.foldl (fun t k => handSample k t) s).serveDue = false :=
  foldl_keeps (P := fun t : State => t.serveDue = false) _ (fun t k e => handSample_serve k t e) l s h

theorem judgeReference_loose (inWindow : Bool) (x : Scan) :
    (x.judgeReference inWindow).spot = x.spot ∧ (x.judgeReference inWindow).round = x.round := by
  unfold Scan.judgeReference
  split
  · exact ⟨rfl, rfl⟩
  · split <;> exact ⟨rfl, rfl⟩
  · split <;> exact ⟨rfl, rfl⟩
  · exact ⟨rfl, rfl⟩

/-- R85: the records of a round leave the pending spot. -/
theorem record_spot (raws : Vector Raw 16) (x : Scan) : (x.record raws).spot = x.spot := by
  unfold Scan.record
  dsimp only
  exact (judgeReference_loose _ _).1

/-- R85: the scan once a round has ended. -/
def Scan.closeRound (raws : Vector Raw 16) (now : Nat) (x : Scan) : Scan := { x.record raws with round := none, lastEnd := some now }.goOn

theorem closeRound_keeps (raws : Vector Raw 16) (s : State) (hc : s.scan.converter = .channel) :
    CommandKeeps a s (s.modScan fun _ => s.scan.closeRound raws s.siteTime) := by
  refine modScan_command a _ s (fun l => goOn_scanAt nofun fun p hp => ?_) ((goOn_spot _).trans ?_)
  · dsimp only at hp
    rw [record_spot] at hp
    exact l.not_converting (by rw [hc]; nofun) p hp
  · dsimp only; rw [record_spot]

theorem endRound_keeps (raws : Vector Raw 16) (s : State) (hc : s.scan.converter = .channel) : CommandKeeps a s (endRound raws s) := by
  have turned := closeRound_keeps (a := a) raws s hc
  unfold Scan.closeRound at turned
  unfold endRound
  dsimp only
  refine CommandKeeps.trans ?_ ((keepsLaws_foldl _ handSample_keeps _ _).command a (handSamples_serve _ _))
  split
  · exact turned.trans ((raise_keeps _ _ _).laws.command a id)
  · exact turned

theorem scanRoundEnd_keeps {raw : Raw} (h : execScanRoundEnd raw s = .next t) : CommandKeeps a s t := by
  unfold execScanRoundEnd at h
  split at h <;> injection h with h <;> rw [← h]
  case h_1 r hc hr =>
    split
    · exact endRound_keeps _ s hc
    · exact .refl a s
  · exact .refl a s

/-- R97: the scan once a spot has been answered. -/
def Scan.answerSpot (x : Scan) : Scan := { x with spot := none }.goOn

theorem answerSpot_spot (x : Scan) : x.answerSpot.spot.toList.length = 0 := goOn_spot _

theorem spotConversionEnd_keeps {raw : Raw} (h : execSpotConversionEnd raw s = .next t) : CommandKeeps a s t := by
  unfold execSpotConversionEnd at h
  split at h <;> injection h with h <;> rw [← h]
  case h_1 p hc hp =>
    have answered := modScan_event a Scan.answerSpot s fun l =>
      goOn_scanAt (fun r hr => (l.round r hr).1) fun p hp => absurd hp (Option.not_mem_none p)
    refine ⟨answered.trans (modPort_event a _ _ rfl), id, fun l => ?_⟩
    have none : (({ s.scan with spot := none } : Scan).goOn).spot.toList.length = 0 := answerSpot_spot s.scan
    unfold PortLaw State.outstanding State.waiting at *
    simp only [State.modPort_port, State.modPort_scan, State.modScan_scan, State.modScan_port, none, List.length_append,
      List.length_singleton, hp, Option.toList_some] at *
    omega
  case h_2 hc =>
    exact modScan_command a _ s (fun l => goOn_scanAt (fun r hr => (l.round r hr).1) (l.not_converting (by rw [hc]; nofun))) (goOn_spot _)
  · exact .refl a s

end Machine
end Sys2Proof
end

section
/-! PROOFS. The events of the drive bus and of time, the commands together, and the statements that follow: the clocks, the conditions, the
tags, the port's room, power, melt, order lists, cells and the small laws. -/

namespace Sys2Proof
namespace Machine

/-! ### The drive bus (Chapter 9) -/

section
variable {a : Fixed} {s t : State}

theorem flight_modBus_same (s : State) (d : DishNo) (f : BusRecord → BusRecord) :
    (s.modBus d f).flight d = (f s.bus[d]).inFlight.map InFlight.began := by
  unfold State.flight; rw [State.modBus_same]

theorem flight_modBus_other (s : State) (d e : DishNo) (f : BusRecord → BusRecord) (h : e ≠ d) : (s.modBus d f).flight e = s.flight e := by
  unfold State.flight; rw [State.modBus_other _ _ _ _ h]

theorem mem_segDishes (d : DishNo) (g : SegNo) : d ∈ segDishes g ↔ segOf d = g := by
  unfold segDishes; rw [List.mem_filter]; simp

/-- A free line has no transaction under way. -/
theorem lineFree_iff (s : State) (g : SegNo) : s.lineFree g = true ↔ ∀ d : DishNo, segOf d = g → s.bus[d].inFlight = none := by
  unfold State.lineFree
  rw [List.all_eq_true]
  exact forall_congr' fun d => by rw [mem_segDishes, Option.isNone_iff_eq_none]

theorem lineFree_of_nextVisit {g : SegNo} {d : DishNo} (h : s.nextVisit g = some d) : s.lineFree g = true := by
  unfold State.nextVisit at h
  split at h
  case isTrue hf => exact (Bool.and_eq_true_iff.mp hf).2
  case isFalse => cases h

theorem countDown_serveDue (s : State) (d : DishNo) : (countDown d s).serveDue = s.serveDue := by unfold countDown; split <;> rfl

theorem pollRoundStart_keeps {g : SegNo} (h : execPollRoundStart g s = .next t) : CommandKeeps a s t := by
  injection h with h
  rw [← h]
  split
  · exact (beginPoll_keeps g s).laws.command a fun l => (serveDue_foldl (fun t d => countDown d t) countDown_serveDue _ _).trans l
  · exact .refl a s

/-- A transaction put on a free line. -/
theorem beginTransaction_keeps (d : DishNo) (sent : Sent) (h : s.lineFree (segOf d) = true) : CommandKeeps a s (beginTransaction d sent s) := by
  have free := (lineFree_iff s _).mp h
  have put : EventKeeps a s (s.modBus d fun b =>
      { b with inFlight := some ⟨sent, orderChars (addrOf d) sent (startDelay s.siteTime sent), s.siteTime, false, false, false⟩ }) := by
    refine { EventKeeps.refl a s with orders := fun l e => ?_, lines := fun l => ?_ }
    · by_cases he : e = d
      · subst he; rw [State.modBus_same]; exact l e
      · rw [State.modBus_other _ _ _ _ he]; exact l e
    · rw [lineLaw_iff] at *
      refine ⟨fun e f hef he hf => ?_, fun e b hb => ?_⟩
      · by_cases h1 : e = d <;> by_cases h2 : f = d
        · rw [h1, h2]
        · rw [flight_modBus_other _ _ _ _ h2, State.flight, free f (by rw [← hef, h1])] at hf
          cases hf
        · rw [flight_modBus_other _ _ _ _ h1, State.flight, free e (by rw [hef, h2])] at he
          cases he
        · rw [flight_modBus_other _ _ _ _ h1] at he
          rw [flight_modBus_other _ _ _ _ h2] at hf
          exact l.1 e f hef he hf
      · by_cases h1 : e = d
        · subst h1
          rw [flight_modBus_same] at hb
          exact .inl (Option.some.inj hb).symm
        · rw [flight_modBus_other _ _ _ _ h1] at hb
          exact l.2 e b hb
  exact CommandKeeps.trans ⟨put, id, id⟩ ((modEngine_keeps _ _ _).laws.command a id)

theorem visit_keeps {d : DishNo} (h : execVisit d s = .next t) : CommandKeeps a s t := by
  injection h with h
  rw [← h]
  split
  case isTrue hv =>
    exact beginTransaction_keeps d _ (lineFree_of_nextVisit (of_decide_eq_true (Bool.and_eq_true_iff.mp hv).1))
  case isFalse => exact .refl a s

theorem presenceProbe_keeps {d : DishNo} (h : execPresenceProbe d s = .next t) : CommandKeeps a s t := by
  injection h with h
  rw [← h]
  split
  case isTrue hv =>
    exact beginTransaction_keeps d _ (lineFree_of_nextVisit (of_decide_eq_true (Bool.and_eq_true_iff.mp hv).1))
  case isFalse => exact .refl a s

/-- A transaction taken off its line. -/
theorem takeOff_keeps (a : Fixed) (d : DishNo) (s : State) : CommandKeeps a s (s.modBus d fun b => { b with inFlight := none }) := by
  have off : ∀ e b, b ∈ (s.modBus d fun b => { b with inFlight := none }).flight e → b ∈ s.flight e := fun e b hb => by
    by_cases h : e = d
    · subst h; rw [flight_modBus_same] at hb; cases hb
    · rwa [flight_modBus_other _ _ _ _ h] at hb
  refine ⟨{ EventKeeps.refl a s with orders := fun l e => ?_, lines := fun l => ?_ }, id, id⟩
  · by_cases he : e = d
    · subst he; rw [State.modBus_same]; exact l e
    · rw [State.modBus_other _ _ _ _ he]; exact l e
  · rw [lineLaw_iff] at *
    have some_off {e : DishNo} (h : ((s.modBus d fun b => { b with inFlight := none }).flight e).isSome = true) : (s.flight e).isSome = true := by
      obtain ⟨b, hb⟩ := Option.isSome_iff_exists.mp h
      exact Option.isSome_iff_exists.mpr ⟨b, off e b hb⟩
    exact ⟨fun e f hef he hf => l.1 e f hef (some_off he) (some_off hf), fun e b hb => l.2 e b (off e b hb)⟩

theorem loseLink_serve (d : DishNo) (s : State) : (loseLink d s).serveDue = false := serveIfDue_off _

theorem handleReply_serve (d : DishNo) (r : Reply) (took isReturn : Bool) (s : State) : (handleReply d r took isReturn s).serveDue = false :=
  serveIfDue_off _

theorem endTransaction_serve (d : DishNo) (x : InFlight) (out : Judged) (s : State) (h : s.serveDue = false) :
    (endTransaction d x out s).serveDue = false := by
  unfold endTransaction
  split
  · split
    · exact handleReply_serve d _ _ _ _
    · exact handleReply_serve d _ _ _ _
  · exact h
  · split
    · exact h
    · unfold failedOrder
      dsimp only
      split
      · exact loseLink_serve d _
      · exact h

theorem transactionEnd_keeps {d : DishNo} {chars : List Char9} {cutShort : Bool} (h : execTransactionEnd d chars cutShort s = .next t) :
    CommandKeeps a s t := by
  unfold execTransactionEnd at h
  split at h <;> injection h with h <;> rw [← h]
  · exact .refl a s
  case h_2 x _ =>
    split
    · exact takeOff_keeps a d s
    · exact (takeOff_keeps a d s).trans ((endTransaction_keeps d x _ _).laws.command a (endTransaction_serve d x _ _))

/-! ### The events of time -/

theorem memberDeadlineExpiry_keeps {d : DishNo} (h : execMemberDeadlineExpiry d s = .next t) : CommandKeeps a s t := by
  injection h with h
  rw [← h]
  split
  · exact ((cutDish_keeps d _ _ s).trans (serveIfDue_keeps _)).laws.command a fun _ => serveIfDue_off _
  · exact .refl a s

theorem stowDeadlineExpiry_keeps {d : DishNo} (h : execStowDeadlineExpiry d s = .next t) : CommandKeeps a s t := by
  injection h with h
  rw [← h]
  split
  · exact ((cutDish_keeps d _ _ s).trans (serveIfDue_keeps _)).laws.command a fun _ => serveIfDue_off _
  · exact .refl a s

theorem quietTimeEnd_keeps {d : DishNo} (h : execQuietTimeEnd d s = .next t) : CommandKeeps a s t := by
  injection h with h
  rw [← h]
  split
  · exact ((endQuiet_keeps d s).trans (serveIfDue_keeps _)).laws.command a fun _ => serveIfDue_off _
  · exact .refl a s

theorem holdDownExpiry_keeps {c : CellNo} (h : execHoldDownExpiry c s = .next t) : CommandKeeps a s t := by
  injection h with h
  rw [← h]
  split
  · exact ((endHold_keeps c s).trans (serveIfDue_keeps _)).laws.command a fun _ => serveIfDue_off _
  · exact .refl a s

theorem lingerExpiry_keeps (h : execLingerExpiry s = .next t) : CommandKeeps a s t := by
  injection h with h
  rw [← h]
  split
  · exact (modWeather_keeps _ s).laws.command a id
  · exact .refl a s

theorem heaterBoundaryEvent_keeps (h : execHeaterBoundary s = .next t) : CommandKeeps a s t := by
  injection h with h
  rw [← h]
  split
  · exact (heaterBoundary_keeps s).command a fun _ => serveIfDue_off _
  · exact .refl a s

theorem windowOpen_keeps {d : DishNo} (h : execWindowOpen d s = .next t) : CommandKeeps a s t := by
  injection h with h
  rw [← h]
  split
  · exact .refl a s
  · split
    · exact (closeWindow_keeps d s).laws.command a fun l => (closeWindow_serveDue d s).trans l
    · exact (openWindow_keeps d s).laws.command a fun l => (openWindow_serveDue d s).trans l

theorem windowClose_keeps {d : DishNo} (h : execWindowClose d s = .next t) : CommandKeeps a s t := by
  injection h with h
  rw [← h]
  split
  · exact (closeWindow_keeps d s).laws.command a fun l => (closeWindow_serveDue d s).trans l
  · exact .refl a s

theorem takeWeatherByte_serve (b : Byte) (stopBit : Bool) (s : State) (h : s.serveDue = false) :
    (takeWeatherByte b stopBit s).serveDue = false := by
  unfold takeWeatherByte
  split
  · exact h
  · dsimp only
    split
    · exact serveIfDue_off _
    · exact h

theorem weatherByte_keeps {b : Byte} {stopBit : Bool} (h : execWeatherByte b stopBit s = .next t) : CommandKeeps a s t := by
  injection h with h
  rw [← h]
  exact (takeWeatherByte_keeps b stopBit s).laws.command a (takeWeatherByte_serve b stopBit s)

end

/-! ### Every command -/

/-- What a command leaves of the pieces that only few change. -/
def fixedBy : Instr → Fixed
  | .setClock _ _ => ⟨False, True, True, True⟩
  | .placeTag _ _ => ⟨True, True, False, True⟩
  | .releaseTag _ _ => ⟨True, False, True, True⟩
  | .readConditions _ _ => ⟨True, True, True, False⟩
  | .resetCoordination _ _ => ⟨True, True, True, False⟩
  | _ => ⟨True, True, True, True⟩

/-- What a command that goes on but for a power-on reset keeps. -/
theorem exec_keeps {i : Instr} {s t : State} (hi : i ≠ .powerOnReset) (h : exec i s = .next t) : CommandKeeps (fixedBy i) s t := by
  cases i with
  | powerOnReset => exact absurd rfl hi
  | exchangeBegin => exact exchangeBegin_keeps h
  | exchangeEnd bytes => exact exchangeEnd_keeps h
  | describeDish label params => exact request_keeps (describe_runs _) h
  | resumeDish label params => exact request_keeps (resume_runs _) h
  | restrainDish label params => exact request_keeps (restrain_runs _) h
  | lookUpDish label params => exact request_keeps (lookUpDish_runs _) h
  | writeOffDish label params => exact request_keeps (writeOff_runs _) h
  | openGroup label params => exact request_keeps (openGroup_runs _) h
  | addMember label params => exact request_keeps (addMember_runs _) h
  | dropMember label params => exact request_keeps (dropMember_runs _ _) h
  | aimGroup label params => exact request_keeps (aimGroup_runs _) h
  | startGroup label params => exact request_keeps (startGroup_runs _) h
  | haltGroup label params => exact request_keeps (haltGroup_runs _) h
  | disbandGroup label params => exact request_keeps (disbandGroup_runs _) h
  | lookUpGroup label params => exact request_keeps (lookUpGroup_runs _) h
  | setFeed label params => exact request_keeps (setFeed_runs _) h
  | lookUpBudget label params => exact request_keeps lookUpBudget_runs h
  | spotReading label params => exact request_keeps (spotReading_runs label _) h
  | lookUpChannels label params => exact request_keeps lookUpChannels_runs h
  | setWindLimits label params => exact request_keeps (setWindLimits_runs _) h
  | forceStow label params => exact request_keeps (forceStow_runs _) h
  | releaseStow label params => exact request_keeps (releaseStow_runs _) h
  | setSiteCode label params => exact request_keeps (setSiteCode_runs _) h
  | lookUpCell label params => exact request_keeps (lookUpCell_runs _) h
  | setMeltMode label params => exact request_keeps (setMeltMode_runs _) h
  | setMeltLimits label params => exact request_keeps (setMeltLimits_runs _) h
  | lookUpMelt label params => exact request_keeps (lookUpMelt_runs _) h
  | placeTag label params => exact request_keeps (placeTag_runs _) h
  | releaseTag label params => exact request_keeps (releaseTag_runs _) h
  | lookUpTag label params => exact request_keeps (lookUpTag_runs _) h
  | listTags label params => exact request_keeps (listTags_runs _) h
  | setClock label params => exact request_keeps (setClock_runs _) h
  | readConditions label params => exact request_keeps readConditions_runs h
  | resetCoordination label params => exact request_keeps resetCoordination_runs h
  | unknownRequest code label params => exact unknownRequest_keeps h
  | scanRoundStart => exact scanRoundStart_keeps h
  | conversionEnd raw => exact conversionEnd_keeps h
  | scanRoundEnd raw => exact scanRoundEnd_keeps h
  | spotConversionEnd raw => exact spotConversionEnd_keeps h
  | pollRoundStart seg => exact pollRoundStart_keeps h
  | visit dish => exact visit_keeps h
  | presenceProbe dish => exact presenceProbe_keeps h
  | transactionEnd dish chars cutShort => exact transactionEnd_keeps h
  | memberDeadlineExpiry dish => exact memberDeadlineExpiry_keeps h
  | stowDeadlineExpiry dish => exact stowDeadlineExpiry_keeps h
  | quietTimeEnd dish => exact quietTimeEnd_keeps h
  | holdDownExpiry cell => exact holdDownExpiry_keeps h
  | lingerExpiry => exact lingerExpiry_keeps h
  | heaterBoundary => exact heaterBoundaryEvent_keeps h
  | windowOpen dish => exact windowOpen_keeps h
  | windowClose dish => exact windowClose_keeps h
  | weatherByte byte stopBit => exact weatherByte_keeps h

/-- A frame, an end of a conversion and an end of a transaction always go on. -/
theorem exchangeEnd_next (bytes : List Byte) (s : State) : ∃ t, execExchangeEnd bytes s = .next t := by
  unfold execExchangeEnd; split <;> exact ⟨_, rfl⟩

theorem unknownRequest_next (code label : Byte) (params : List Byte) (s : State) : ∃ t, execUnknownRequest code label params s = .next t := by
  unfold execUnknownRequest; split
  · exact ⟨_, rfl⟩
  · split <;> exact ⟨_, rfl⟩

theorem conversionEnd_next (raw : Raw) (s : State) : ∃ t, execConversionEnd raw s = .next t := by
  unfold execConversionEnd; split <;> exact ⟨_, rfl⟩

theorem scanRoundEnd_next (raw : Raw) (s : State) : ∃ t, execScanRoundEnd raw s = .next t := by
  unfold execScanRoundEnd; split <;> exact ⟨_, rfl⟩

theorem spotConversionEnd_next (raw : Raw) (s : State) : ∃ t, execSpotConversionEnd raw s = .next t := by
  unfold execSpotConversionEnd; split <;> exact ⟨_, rfl⟩

theorem transactionEnd_next (d : DishNo) (chars : List Char9) (cutShort : Bool) (s : State) :
    ∃ t, execTransactionEnd d chars cutShort s = .next t := by
  unfold execTransactionEnd; split <;> exact ⟨_, rfl⟩

/-- Every command goes on. -/
theorem exec_next (i : Instr) (s : State) : ∃ t, exec i s = .next t := by
  cases i with
  | describeDish | resumeDish | restrainDish | lookUpDish | writeOffDish | openGroup | addMember | dropMember | aimGroup | startGroup
  | haltGroup | disbandGroup | lookUpGroup | setFeed | lookUpBudget | spotReading | lookUpChannels | setWindLimits | forceStow | releaseStow
  | setSiteCode | lookUpCell | setMeltMode | setMeltLimits | lookUpMelt | placeTag | releaseTag | lookUpTag | listTags | setClock
  | readConditions | resetCoordination => exact runRequest_next _ _ s
  | exchangeEnd bytes => exact exchangeEnd_next bytes s
  | unknownRequest code label params => exact unknownRequest_next code label params s
  | conversionEnd raw => exact conversionEnd_next raw s
  | scanRoundEnd raw => exact scanRoundEnd_next raw s
  | spotConversionEnd raw => exact spotConversionEnd_next raw s
  | transactionEnd dish chars cutShort => exact transactionEnd_next dish chars cutShort s
  | powerOnReset | exchangeBegin | scanRoundStart | pollRoundStart | visit | presenceProbe | memberDeadlineExpiry | stowDeadlineExpiry
  | quietTimeEnd | holdDownExpiry | lingerExpiry | heaterBoundary | windowOpen | windowClose | weatherByte => exact ⟨_, rfl⟩

/-- Settles O3: every command goes on, and what it keeps has the waiting commands among it; a power-on reset keeps them too. -/
theorem everyCommandGoesOnAndKeepsTheQueue : Obligations.EveryCommandGoesOnAndKeepsTheQueue := by
  unfold Obligations.EveryCommandGoesOnAndKeepsTheQueue
  intro c s
  by_cases hc : c = .powerOnReset
  · subst hc; exact ⟨_, rfl, rfl⟩
  · obtain ⟨t, ht⟩ := exec_next c s
    exact ⟨t, ht, (exec_keeps hc ht).event.pending⟩

/-- Settles O46. -/
theorem onlyTimeItselfMovesTheClocks : Obligations.OnlyTimeItselfMovesTheClocks := by
  unfold Obligations.OnlyTimeItselfMovesTheClocks
  intro i s t h hi
  have kept := (exec_keeps hi h).event
  refine ⟨kept.siteTime, fun hc => kept.arrayClock ?_⟩
  unfold fixedBy
  split
  case h_1 label params => exact absurd rfl (hc label params)
  all_goals trivial

/-- R190: ATTN. -/
theorem attn_iff (s : State) : s.attn = true ↔ s.port.answers ≠ [] ∨ ∃ k : Fin 9, s.port.conditions[k].flag = true := by
  unfold State.attn Port.conditionPending
  rw [Bool.or_eq_true, List.any_eq_true]
  refine or_congr ?_ ⟨fun ⟨k, _, hk⟩ => ⟨k, hk⟩, fun ⟨k, hk⟩ => ⟨k, List.mem_finRange k, hk⟩⟩
  cases s.port.answers <;> simp

/-- Settles O44: what a raising writes, ATTN, and the conditions among what every other command keeps. -/
theorem conditionsStayUntilRead : Obligations.ConditionsStayUntilRead := by
  unfold Obligations.ConditionsStayUntilRead
  refine ⟨fun c items s => ?_, attn_iff, fun i s t h hi hc => ?_⟩
  · dsimp only
    rw [raise_same]
    exact ⟨rfl, fun n => mem_foldl_insertItem n _ _, foldl_insertItem_rising _ _, raise_other c items s, raise_touches c items s⟩
  · refine (exec_keeps hi h).event.conditions ?_
    unfold fixedBy
    split
    case h_4 label params => exact absurd rfl (hc label params).1
    case h_5 label params => exact absurd rfl (hc label params).2
    all_goals trivial

/-! ### The laws step by step -/

/-- A law of the state, its waiting commands and its count of free values apart, that every command, a run's beginning and the passing of a
centisecond keep, and that holds after a power-on reset, is kept by every step. -/
theorem step_keeps {L : State → Prop} (free : ∀ (s : State) (q : List Instr) (n : Nat), L s → L { s with pending := q, freeCount := n })
    (reset : L State.reset) (run : ∀ s, runStartDue s = true → L s → L (startRun s))
    (command : ∀ (i : Instr) (s t : State), i ≠ .powerOnReset → exec i s = .next t → L s → L t)
    (pass : ∀ s, dueCommands s = [] → L s → L (tick s)) {s t : State} (l : L s) (h : step s = .next t) : L t := by
  have any (i : Instr) (u : State) (hu : exec i u = .next t) (lu : L u) : L t := by
    by_cases hi : i = .powerOnReset
    · subst hi
      injection hu with hu
      rw [← hu]; exact free _ _ _ reset
    · exact command i u t hi hu lu
  rcases step_cases h with ⟨i, rest, -, e⟩ | ⟨-, due, e⟩ | ⟨-, -, i, rest, -, e⟩ | ⟨-, -, due, e⟩
  · exact any i _ e (free s rest s.freeCount l)
  · rw [e]; exact free _ _ _ (run s due l)
  · exact any i _ e (free s s.pending (s.freeCount + 1) l)
  · rw [e]; exact free _ _ _ (pass s due l)

/-- Settles O56: among what every command keeps; time and the beginning of a run reserve nothing. -/
theorem powerLawIsKept : Obligations.PowerLawIsKept := by
  unfold Obligations.PowerLawIsKept
  intro s t l h
  refine step_keeps (fun _ _ _ l => l) ?_ (fun _ _ l => l) (fun i s t hi hx l => (exec_keeps hi hx).event.power l) (fun _ _ l => l) l h
  unfold PowerLaw; decide +kernel

theorem reset_dishes (d : DishNo) : State.reset.dishes[d] = DishRecord.reset := Vector.getElem_replicate ..
theorem reset_drive (d : DishNo) : State.reset.drive[d] = ⟨0, none⟩ := Vector.getElem_replicate ..
theorem reset_grants (d : DishNo) : State.reset.grants[d] = ⟨0, 0⟩ := Vector.getElem_replicate ..
theorem reset_circuits (d : DishNo) : State.reset.circuits[d] = Circuit.reset := Vector.getElem_replicate ..
theorem reset_bus (d : DishNo) : State.reset.bus[d] = BusRecord.reset := Vector.getElem_replicate ..
theorem reset_cells (c : CellNo) : State.reset.cells[c] = Cell.reset := Vector.getElem_replicate ..
theorem reset_groups (g : GroupNo) : State.reset.groups[g] = none := Vector.getElem_replicate ..
theorem reset_tags (k : TagNo) : State.reset.tags[k] = none := Vector.getElem_replicate ..
theorem reset_conditions (k : Fin 9) : State.reset.port.conditions[k] = ⟨false, []⟩ := Vector.getElem_replicate ..

theorem reset_melt : MeltLaw State.reset := fun d => by
  rw [reset_grants, reset_circuits]
  exact ⟨le_rfl, by decide, by decide, fun _ => rfl, fun _ => rfl⟩

/-- Settles O57. -/
theorem meltLawIsKept : Obligations.MeltLawIsKept := by
  unfold Obligations.MeltLawIsKept
  intro s t l h
  exact step_keeps (fun _ _ _ l => l) reset_melt (fun _ _ l => l) (fun i s t hi hx l => (exec_keeps hi hx).event.melt l) (fun _ _ l => l) l h

theorem reset_orders : OrderLaw State.reset := fun d => by rw [reset_bus]; exact ⟨rfl, fun _ => ⟨rfl, rfl⟩⟩

theorem reset_cellLaw : CellLaw State.reset := fun c => by rw [reset_cells]; exact ⟨rfl, rfl⟩

/-- A count that runs stays present. -/
theorem countIf_isSome (runs : Bool) (n : Option Nat) : (countIf runs n).isSome = n.isSome := by
  unfold countIf; split
  · exact Option.isSome_map
  · rfl

theorem tick_cells (s : State) (c : CellNo) : (tick s).cells[c] = s.cells[c].tick := by
  unfold tick; dsimp only; simp only [Fin.getElem_fin, Vector.getElem_map]

theorem tick_dishes (s : State) (d : DishNo) : (tick s).dishes[d] = s.dishes[d].tick := by
  unfold tick; dsimp only; simp only [Fin.getElem_fin, Vector.getElem_map]

theorem tick_cellLaw {s : State} (l : CellLaw s) : CellLaw (tick s) := fun c => by
  rw [tick_cells]
  exact ⟨(l c).1, (countIf_isSome _ _).trans (l c).2⟩

/-- Settles O58: both laws are among what every command keeps; a count that runs stays present. -/
theorem orderAndCellLawsAreKept : Obligations.OrderAndCellLawsAreKept := by
  unfold Obligations.OrderAndCellLawsAreKept
  refine ⟨fun s t l h => ?_, fun s t l h => ?_⟩
  · exact step_keeps (fun _ _ _ l => l) reset_orders (fun _ _ l => l) (fun i s t hi hx l => (exec_keeps hi hx).event.orders l)
      (fun _ _ l => l) l h
  · exact step_keeps (fun _ _ _ l => l) reset_cellLaw (fun _ _ l => l) (fun i s t hi hx l => (exec_keeps hi hx).event.cells l)
      (fun _ _ l => tick_cellLaw l) l h

/-- R185: the beginning of a run moves its request from the queue to the run. -/
theorem startRun_portLaw {s : State} (h : runStartDue s = true) (l : PortLaw s) : PortLaw (startRun s) := by
  unfold runStartDue at h
  obtain ⟨running, queue⟩ := Bool.and_eq_true_iff.mp h
  have hr : s.port.running = none := Option.isNone_iff_eq_none.mp running
  cases hq : s.port.queue with
  | nil => rw [hq] at queue; cases queue
  | cons r rest =>
    unfold PortLaw State.outstanding State.waiting startRun at *
    simp only [State.modPort_port, State.modPort_scan, hr, hq, List.tail_cons, List.head?_cons, List.length_cons, Option.toList_some,
      Option.toList_none, List.length_nil] at *
    omega

/-- Settles O55: the room that every command keeps; the beginning of a run takes none. -/
theorem portLawIsKept : Obligations.PortLawIsKept := by
  unfold Obligations.PortLawIsKept
  intro s t l h
  exact step_keeps (fun _ _ _ l => l) (by unfold PortLaw; decide) (fun _ due l => startRun_portLaw due l)
    (fun i s t hi hx l => (exec_keeps hi hx).room l) (fun _ _ l => l) l h

/-! ### The small laws (O60) -/

theorem reset_lineLaw : LineLaw State.reset := by
  rw [lineLaw_iff]
  have none (d : DishNo) : State.reset.flight d = none := by unfold State.flight; rw [reset_bus]; rfl
  exact ⟨fun d e _ h => by (rw [none] at h; cases h), fun d b h => by rw [none] at h; cases h⟩

theorem reset_scanLaw : ScanLaw State.reset := (scanLaw_iff _).mpr
  ⟨nofun, nofun, iff_of_false nofun (fun ⟨p, hp, _⟩ => absurd hp (Option.not_mem_none p)), fun p hp => absurd hp (Option.not_mem_none p), nofun⟩

theorem reset_tidyLaw : TidyLaw State.reset := by
  refine ⟨fun d => ?_, rfl, fun k => ?_, reset_lineLaw, fun d => ?_, reset_scanLaw⟩
  · rw [reset_drive]; exact iff_of_true rfl rfl
  · rw [reset_conditions]; exact .nil
  · rw [reset_dishes]; exact default_inTable

/-- R163, R168: where nothing is due, every transaction under way began at this site time. -/
theorem began_now {s : State} (due : dueCommands s = []) {d : DishNo} {x : InFlight} (hx : s.bus[d].inFlight = some x) :
    x.began = s.siteTime := by
  obtain ⟨-, -, -, -, -, -, ends, -⟩ := dueCommands_nil due
  have none : when (endDue s d) (.transactionEnd d [] false) = [] := List.flatMap_eq_nil_iff.mp ends d (mem_allDishes d)
  have idle : endDue s d = false := by
    cases hd : endDue s d with
    | false => rfl
    | true => rw [hd] at none; cases none
  unfold endDue endForced at idle
  rw [hx] at idle
  simp only [Bool.or_eq_false_iff, bne_eq_false_iff_eq] at idle
  exact idle.1.2

theorem tick_lineLaw {s : State} (due : dueCommands s = []) (l : LineLaw s) : LineLaw (tick s) :=
  ⟨l.1, fun _ _ hx => .inr (congrArg (· + 1) (began_now due hx))⟩

/-- R85: where nothing is due, no scan round is under way. -/
theorem no_round {s : State} (due : dueCommands s = []) (l : ScanLaw s) : s.scan.round = none := by
  rw [Option.eq_none_iff_forall_not_mem]
  intro r hr
  obtain ⟨-, -, -, -, -, -, -, late⟩ := dueCommands_nil due
  have hr' : s.scan.round = some r := hr
  unfold lateConversions conversionForced at late
  rw [hr', Option.isSome_some, Bool.true_or, if_pos rfl] at late
  unfold conversionEnds at late
  rw [hr'] at late
  have busy := (l.1 r hr).2
  cases hc : s.scan.converter <;> rw [hc] at late
  · exact busy hc
  all_goals cases late

theorem tick_scanLaw {s : State} (due : dueCommands s = []) (l : ScanLaw s) : ScanLaw (tick s) := by
  have none := no_round due l
  have lx := (scanLaw_iff s).mp l
  have not_channel : s.scan.converter ≠ .channel := fun h => by
    have := lx.channel h
    rw [none] at this; cases this
  refine (scanLaw_iff _).mpr ⟨fun r hr => ?_, lx.channel, lx.spot, lx.waiting, fun h => ?_⟩
  · have : r ∈ s.scan.round := hr
    rw [none] at this; cases this
  · have busy : s.scan.converter ≠ .idle := bne_iff_ne.mp h
    change s.scan.converter = .spot ∨ s.scan.converter = .dropped
    cases hc : s.scan.converter
    · exact absurd hc busy
    · exact absurd hc not_channel
    · exact .inl rfl
    · exact .inr rfl

theorem tick_descriptions {s : State} (l : DescriptionLaw s) : DescriptionLaw (tick s) := fun d => by rw [tick_dishes]; exact l d

/-- Settles O60: the six laws are among what every command keeps; where nothing is due, no round is under way and no transaction is left by
an earlier centisecond, so that one more may pass. -/
theorem tidyLawIsKept : Obligations.TidyLawIsKept := by
  unfold Obligations.TidyLawIsKept
  intro s t l h
  refine step_keeps (L := TidyLaw) (fun _ _ _ l => l) reset_tidyLaw (fun _ _ l => l) (fun i s t hi hx l => ?_) (fun s due l => ?_) l h
  · obtain ⟨kinds, serve, items, lines, descriptions, scan⟩ := l
    have kept := exec_keeps hi hx
    exact ⟨kept.event.kinds kinds, kept.serve serve, kept.event.items items, kept.event.lines lines, kept.event.descriptions descriptions,
      kept.event.scan scan⟩
  · obtain ⟨kinds, serve, items, lines, descriptions, scan⟩ := l
    exact ⟨kinds, serve, items, tick_lineLaw due lines, tick_descriptions descriptions, tick_scanLaw due scan⟩

end Machine
end Sys2Proof
end

section
/-! PROOFS. The tag table between its own requests (O45): what the commands leave of the slots, and how a reply is judged (R149, R150). -/

namespace Sys2Proof
namespace Machine

theorem bothStill_iff (o : Observed) : o.bothStill = true ↔ o.azState = .still ∧ o.elState = .still := by
  unfold Observed.bothStill; simp

theorem anyMoving_iff (o : Observed) : o.anyMoving = true ↔ o.azState = .moving ∨ o.elState = .moving := by
  unfold Observed.anyMoving; simp

theorem anyFault_iff (o : Observed) : o.anyFault = true ↔ o.azState = .fault ∨ o.elState = .fault := by
  unfold Observed.anyFault; simp

theorem bothArrived_iff (o : Observed) : o.bothArrived = true ↔ o.azState = .arrived ∧ o.elState = .arrived := by
  unfold Observed.bothArrived; simp

/-- R48: which replies to a member are judged for arrival. -/
theorem memberJudged_iff (o : Observed) (took : Bool) (m : Member) (tg : Angles) : memberJudged o took m = some tg ↔
    m.sub = .moving ∧ m.start.isSome = true ∧ m.deadline.isSome = true ∧ took = false ∧ (o.azState = .arrived ∧ o.elState = .arrived) ∧
    m.targets = some tg := by
  unfold memberJudged
  rw [← bothArrived_iff]
  cases took <;> simp [and_assoc]

/-- R49: the arrival window on both axes. -/
theorem onTarget_iff (window : Nat) (o : Observed) (tg : Angles) : onTarget window o tg = true ↔
    (o.position.az - tg.az).natAbs ≤ window ∧ (o.position.el - tg.el).natAbs ≤ window := by
  unfold onTarget withinWindow; simp

theorem atStow_iff (s : State) (d : DishNo) (o : Observed) : atStow s d o = true ↔
    (o.position.el - s.dishes[d].desc.stowEl).natAbs ≤ s.settings.arrivalWindow := by
  unfold atStow withinWindow; simp

/-- R119: which replies to a STOWING dish are judged for arrival. -/
theorem stowJudged_iff (o : Observed) (took : Bool) (m : Option StowMove) : stowJudged o took m = true ↔
    took = false ∧ (o.azState = .arrived ∧ o.elState = .arrived) ∧ ∃ x, m = some x ∧ x.start.isSome = true := by
  unfold stowJudged
  rw [← bothArrived_iff]
  cases took <;> cases m <;> simp

/-- R149: the replies that end a move by arrival. -/
theorem endsByArrival_iff (d : DishNo) (r : Reply) (took : Bool) (s : State) : endsByArrival d r took s = true ↔
    r.refused = false ∧
    ((s.dishes[d].motion = .member ∧ ∃ g m tg, s.memberOf d = some (g, m) ∧ memberJudged r.observed took m = some tg ∧
        onTarget s.settings.arrivalWindow r.observed tg = true) ∨
     (s.dishes[d].motion = .stowing ∧ stowJudged r.observed took s.stowMoves[d] = true ∧ atStow s d r.observed = true)) := by
  unfold endsByArrival
  rw [Bool.and_eq_true, Bool.not_eq_true']
  refine and_congr_right fun _ => ?_
  cases hm : s.dishes[d].motion
  case member =>
    simp only [true_and, reduceCtorEq, false_and, or_false]
    cases hmem : s.memberOf d with
    | none => simp
    | some e =>
      obtain ⟨g, m⟩ := e
      dsimp only
      cases hj : memberJudged r.observed took m with
      | none => simp [hj]
      | some tg => simp [hj]
  case stowing => simp
  all_goals simp

/-- R149: the replies that show the dish at rest. -/
theorem shownAtRest_iff (d : DishNo) (o : Observed) (s : State) : shownAtRest d o s = true ↔
    (o.azState = .still ∧ o.elState = .still) ∧ s.dishes[d].motion ≠ .stowing ∧
      ¬ (s.dishes[d].motion = .member ∧ s.movingMember d = true) := by
  unfold shownAtRest
  rw [← bothStill_iff]
  simp only [Bool.and_eq_true, bne_iff_ne, Bool.not_eq_true', ← Bool.not_eq_true, beq_iff_eq, and_assoc]

/-- The tags of a dish in a state, slot by slot. -/
theorem tagIds_eq (d : DishNo) (st : TagState) (s : State) :
    tagIds d st s = allTags.filter fun k => (s.tags[k].map fun t => decide (t.dish = d ∧ t.state = st)).getD false := by
  unfold tagIds tagsOn
  induction allTags with
  | nil => rfl
  | cons k l ih =>
    rw [List.filter_cons, ← ih]
    cases hk : s.tags[k] with
    | none => rw [List.filterMap_cons_none (by rw [hk])]; rfl
    | some t =>
      by_cases hd : t.dish = d
      · rw [List.filterMap_cons_some (b := (k, t)) (by rw [hk]; exact if_pos hd), List.filter_cons]
        by_cases hs : t.state = st
        · simp [hd, hs]
        · simp [hd, hs]
      · rw [List.filterMap_cons_none (by rw [hk]; exact if_neg hd)]
        simp [hd]

/-- Settles O45: the slots among what every command keeps; then the two judgements of a reply, in terms of what it reports. -/
theorem tagsChangeOnlyByTheirOwnRequests : Obligations.TagsChangeOnlyByTheirOwnRequests := by
  unfold Obligations.TagsChangeOnlyByTheirOwnRequests
  refine ⟨fun i s t h hi hr k => ⟨fun x hx => ?_, fun hn hp => ?_⟩, fun d r took isReturn before s => ?_⟩
  · have held : (fixedBy i).held := by
      unfold fixedBy
      split
      case h_3 label params => exact absurd rfl (hr label params)
      all_goals trivial
    obtain ⟨y, hy, e⟩ := exists_bare ((exec_keeps hi h).event.held held k x hx)
    exact ⟨y.state, hy.trans (congrArg some (congrArg (fun z : Tag => { z with state := y.state }) e))⟩
  · refine (exec_keeps hi h).event.vacant ?_ k hn
    unfold fixedBy
    split
    case h_2 label params => exact absurd rfl (hp label params)
    all_goals trivial
  · dsimp only
    have turned (old new : TagState) : turnTags d old new s = { s with
        tags := s.tags.map fun slot => slot.map fun t => if t.dish = d ∧ t.state = old then { t with state := new } else t } := by
      unfold turnTags
      simp only [Bool.and_eq_true, decide_eq_true_eq]
    have returns : (isReturn && before.dishes[d].motion == .unreachable && r.observed.anyMoving) = true ↔
        isReturn = true ∧ before.dishes[d].motion = .unreachable ∧ (r.observed.azState = .moving ∨ r.observed.elState = .moving) := by
      rw [← anyMoving_iff]; simp [and_assoc]
    have arrives : endsByArrival d r took before = true ↔
        r.refused = false ∧ took = false ∧ (r.observed.azState = .arrived ∧ r.observed.elState = .arrived) ∧
        ((before.dishes[d].motion = .member ∧ ∃ g m tg, before.memberOf d = some (g, m) ∧ m.sub = .moving ∧ m.start.isSome = true ∧
            m.deadline.isSome = true ∧ m.targets = some tg ∧
            (r.observed.position.az - tg.az).natAbs ≤ before.settings.arrivalWindow ∧
            (r.observed.position.el - tg.el).natAbs ≤ before.settings.arrivalWindow) ∨
         (before.dishes[d].motion = .stowing ∧ ∃ m, before.stowMoves[d] = some m ∧ m.start.isSome = true ∧
            (r.observed.position.el - before.dishes[d].desc.stowEl).natAbs ≤ before.settings.arrivalWindow)) := by
      rw [endsByArrival_iff]
      simp only [memberJudged_iff, onTarget_iff, stowJudged_iff, atStow_iff]
      refine and_congr_right fun _ => ⟨?_, ?_⟩
      · rintro (⟨hm, g, m, tg, hg, ⟨h1, h2, h3, h4, h5, h6⟩, h7, h8⟩ | ⟨hm, ⟨h1, h2, x, h3, h4⟩, h5⟩)
        · exact ⟨h4, h5, .inl ⟨hm, g, m, tg, hg, h1, h2, h3, h6, h7, h8⟩⟩
        · exact ⟨h1, h2, .inr ⟨hm, x, h3, h4, h5⟩⟩
      · rintro ⟨h4, h5, ⟨hm, g, m, tg, hg, h1, h2, h3, h6, h7, h8⟩ | ⟨hm, x, h1, h2, h3⟩⟩
        · exact .inl ⟨hm, g, m, tg, hg, ⟨h1, h2, h3, h4, h5, h6⟩, h7, h8⟩
        · exact .inr ⟨hm, ⟨h4, h5, x, h1, h2⟩, h3⟩
    have held : holdTags d s = if (allTags.filter fun k =>
        (s.tags[k].map fun t => decide (t.dish = d ∧ t.state = .stopping)).getD false) = [] then s else
          raise .tagHeld ((allTags.filter fun k => (s.tags[k].map fun t => decide (t.dish = d ∧ t.state = .stopping)).getD false).map
            fun k => k.val) (turnTags d .stopping .held s) := by
      rw [← tagIds_eq]
      unfold holdTags
      split
      case h_1 e => rw [if_pos e]
      case h_2 ids hids => rw [if_neg (fun e => hids (by rw [e]))]
    rw [← turned .held .stopping, ← turned .stopping .held, ← returns, ← arrives, ← shownAtRest_iff]
    unfold judgeTags
    refine ⟨fun hr => if_pos hr, fun hr hl hh => ?_, fun hr hh => ?_⟩
    · rw [if_neg hr, if_pos ?_, held]
      rw [Bool.and_eq_true, Bool.or_eq_true]
      exact ⟨(linked_iff s d).mpr hl, hh⟩
    · rw [if_neg hr, if_neg ?_]
      rw [Bool.and_eq_true, Bool.or_eq_true, not_and, not_or]
      intro hl
      rcases hh with lost | none
      · rw [not_linked_of_lost lost] at hl; cases hl
      · exact none

end Machine
end Sys2Proof
end

section
/-! PROOFS. SiteLaw dish by dish (O59). What SiteLaw reads of a dish is its `Place`: its motion state, group field and return mark, how often
each member list and the stow queue hold it, and its coverage. SiteLaw holds exactly when every place is in order; an operation on one dish
changes the one place, and most operations none. -/

namespace Sys2Proof
namespace Machine

/-! ### Places -/

/-- What SiteLaw reads of a dish. -/
structure Place where
  motion : MotionState
  group  : Option GroupNo
  mark   : Bool
  listed : GroupNo → Nat
  queued : Nat
  cover  : Coverage

def State.place (s : State) (d : DishNo) : Place :=
  ⟨s.dishes[d].motion, s.dishes[d].group, s.dishes[d].returnMark, fun g => (s.memberDishes g).count d, s.stowQueue.count d, s.coverage d⟩

/-- No member list holds the dish. -/
def Place.Unlisted (p : Place) : Prop := ∀ g, p.listed g = 0

/-- A place in order: R12, R38, R54, R115 and R146 for one dish. -/
structure Place.Ok (p : Place) : Prop where
  once    : ∀ g, p.listed g ≤ 1
  member  : ∀ g, 0 < p.listed g → (p.motion = .member ∨ p.motion = .stopping) ∧ p.group = some g
  named   : p.motion = .member → p.group.isSome = true
  listed  : p.motion = .member ∨ p.motion = .stopping → ∀ g ∈ p.group, 0 < p.listed g
  mark    : p.mark = true → (p.motion = .stopping ∨ p.motion = .cut ∨ p.motion = .restrained) ∧ p.Unlisted
  queued  : p.queued = if p.motion = .stowQueued then 1 else 0
  locked  : p.cover.motion = true → p.motion ≠ .free ∧ p.motion ≠ .member ∧ p.Unlisted
  lockedEl : p.cover.el = true → p.motion ≠ .stowQueued ∧ p.motion ≠ .stowing

theorem unlisted_iff (s : State) (d : DishNo) : (s.place d).Unlisted ↔ ∀ g, d ∉ s.memberDishes g :=
  forall_congr' fun _ => List.count_eq_zero

/-- SiteLaw holds exactly when every place is in order. -/
theorem siteLaw_iff (s : State) : SiteLaw s ↔ ∀ d, (s.place d).Ok := by
  constructor
  · rintro ⟨⟨nodup, member, named, listed⟩, mark, ⟨once, queue⟩, lock⟩ d
    exact
      { once := fun g => List.nodup_iff_count_le_one.mp (nodup g) d
        member := fun g h => member g d (List.count_pos_iff.mp h)
        named := named d
        listed := fun h g hg => List.count_pos_iff.mpr (listed d h g hg)
        mark := fun h => ⟨(mark d h).1, (unlisted_iff s d).mpr (mark d h).2⟩
        queued := by
          change s.stowQueue.count d = if s.dishes[d].motion = .stowQueued then 1 else 0
          split
          case isTrue h => exact List.count_eq_one_of_mem once ((queue d).mpr h)
          case isFalse h => exact List.count_eq_zero.mpr fun hm => h ((queue d).mp hm)
        locked := fun h => ⟨((lock d).1 h).1, ((lock d).1 h).2.1, (unlisted_iff s d).mpr ((lock d).1 h).2.2⟩
        lockedEl := (lock d).2 }
  · intro ok
    have queued (d : DishNo) : s.stowQueue.count d = if s.dishes[d].motion = .stowQueued then 1 else 0 := (ok d).queued
    refine ⟨⟨fun g => List.nodup_iff_count_le_one.mpr fun d => (ok d).once g, fun g d hd => (ok d).member g (List.count_pos_iff.mpr hd),
        fun d => (ok d).named, fun d h g hg => List.count_pos_iff.mp ((ok d).listed h g hg)⟩,
      fun d h => ⟨((ok d).mark h).1, (unlisted_iff s d).mp ((ok d).mark h).2⟩, ⟨List.nodup_iff_count_le_one.mpr fun d => ?_, fun d => ?_⟩,
      fun d => ⟨fun h => ?_, (ok d).lockedEl⟩⟩
    · rw [queued d]; split <;> omega
    · rw [← List.count_pos_iff, queued d]; split <;> simp_all
    · obtain ⟨h1, h2, h3⟩ := (ok d).locked h
      exact ⟨h1, h2, (unlisted_iff s d).mp h3⟩

/-- A dish that is neither MEMBER nor STOPPING stands in no list. -/
theorem Place.Ok.unlisted {p : Place} (h : p.Ok) (hm : p.motion ≠ .member) (hs : p.motion ≠ .stopping) : p.Unlisted := fun g =>
  Nat.eq_zero_of_not_pos fun hp => (h.member g hp).1.elim hm hs

theorem Place.Ok.unlisted_of_group {p : Place} (h : p.Ok) (hg : p.group = none) : p.Unlisted := fun g =>
  Nat.eq_zero_of_not_pos fun hp => by
  have named := (h.member g hp).2
  rw [hg] at named; cases named

theorem Place.Ok.not_queued {p : Place} (h : p.Ok) (hm : p.motion ≠ .stowQueued) : p.queued = 0 := by rw [h.queued, if_neg hm]

theorem Place.Ok.unmarked {p : Place} (h : p.Ok) (h1 : p.motion ≠ .stopping) (h2 : p.motion ≠ .cut) (h3 : p.motion ≠ .restrained) :
    p.mark = false := by
  rw [← Bool.not_eq_true]
  exact fun hm => (h.mark hm).1.elim h1 (Or.elim · h2 h3)

/-- A place in no list: what remains to be asked. -/
theorem Place.Ok.of_unlisted {p : Place} (hu : p.Unlisted) (hm : p.motion ≠ .member) (hs : p.motion = .stopping → p.group = none)
    (hk : p.mark = true → p.motion = .stopping ∨ p.motion = .cut ∨ p.motion = .restrained)
    (hq : p.queued = if p.motion = .stowQueued then 1 else 0) (hf : p.cover.motion = true → p.motion ≠ .free)
    (he : p.cover.el = true → p.motion ≠ .stowQueued ∧ p.motion ≠ .stowing) : p.Ok where
  once g := by rw [hu g]; exact Nat.zero_le 1
  member g h := by rw [hu g] at h; exact absurd h (Nat.lt_irrefl 0)
  named h := absurd h hm
  listed h g hg := by rw [hs (h.resolve_left hm)] at hg; cases hg
  mark h := ⟨hk h, hu⟩
  queued := hq
  locked h := ⟨hf h, hm, hu⟩
  lockedEl := he

/-! ### Relations between states -/

/-- Every place as before. -/
def SamePlaces (s t : State) : Prop := ∀ d, t.place d = s.place d

/-- Every place but one as before. -/
def OnlyAt (d : DishNo) (s t : State) : Prop := ∀ e, e ≠ d → t.place e = s.place e

theorem SamePlaces.refl (s : State) : SamePlaces s s := fun _ => rfl
theorem SamePlaces.trans {s t u : State} (h : SamePlaces s t) (k : SamePlaces t u) : SamePlaces s u := fun d => (k d).trans (h d)
theorem SamePlaces.onlyAt {s t : State} (h : SamePlaces s t) (d : DishNo) : OnlyAt d s t := fun e _ => h e
theorem OnlyAt.refl (d : DishNo) (s : State) : OnlyAt d s s := fun _ _ => rfl
theorem OnlyAt.trans {d : DishNo} {s t u : State} (h : OnlyAt d s t) (k : OnlyAt d t u) : OnlyAt d s u :=
  fun e he => (k e he).trans (h e he)

/-- What each of a list leaves of the places, all leave. -/
theorem samePlaces_foldl {α : Type} (f : State → α → State) (h : ∀ s a, SamePlaces s (f s a)) (l : List α) (s : State) :
    SamePlaces s (l.foldl f s) :=
  foldl_keeps (P := SamePlaces s) f (fun t a k => k.trans (h t a)) l s (.refl s)

/-- SiteLaw kept. -/
def SiteKept (s t : State) : Prop := SiteLaw s → SiteLaw t

theorem SamePlaces.kept {s t : State} (h : SamePlaces s t) : SiteKept s t := fun l =>
  (siteLaw_iff t).mpr fun d => by rw [h d]; exact (siteLaw_iff s).mp l d

theorem SiteKept.refl (s : State) : SiteKept s s := id
theorem SiteKept.trans {s t u : State} (h : SiteKept s t) (k : SiteKept t u) : SiteKept s u := fun l => k (h l)

/-- One place changed, and in order after as before. -/
theorem OnlyAt.kept {d : DishNo} {s t : State} (h : OnlyAt d s t) (hd : (s.place d).Ok → (t.place d).Ok) : SiteKept s t := fun l =>
  (siteLaw_iff t).mpr fun e => by
    have ok := (siteLaw_iff s).mp l
    by_cases he : e = d
    · subst he; exact hd (ok e)
    · rw [h e he]; exact ok e

theorem siteKept_foldl {α : Type} (f : State → α → State) (h : ∀ s a, SiteKept s (f s a)) (l : List α) (s : State) :
    SiteKept s (l.foldl f s) := fun hs => foldl_keeps (P := SiteLaw) f (fun t a k => h t a k) l s hs

/-! ### Changes of one piece of state -/

/-- The pieces that no place reads. -/
theorem samePlaces_of {s t : State} (hd : t.dishes = s.dishes) (hg : t.groups = s.groups) (hq : t.stowQueue = s.stowQueue)
    (ht : t.tags = s.tags) : SamePlaces s t := fun d => by
  unfold State.place State.memberDishes State.entries State.coverage
  rw [hd, hg, hq, ht]

theorem modDish_onlyAt (d : DishNo) (f : DishRecord → DishRecord) (s : State) : OnlyAt d s (s.modDish d f) := fun e he => by
  unfold State.place
  rw [State.modDish_other _ _ _ _ he]
  rfl

theorem modDish_place (d : DishNo) (f : DishRecord → DishRecord) (s : State) : (s.modDish d f).place d =
    { s.place d with motion := (f s.dishes[d]).motion, group := (f s.dishes[d]).group, mark := (f s.dishes[d]).returnMark } := by
  unfold State.place
  rw [State.modDish_same]
  rfl

/-- A record changed in what no place reads. -/
theorem modDish_same (d : DishNo) (f : DishRecord → DishRecord) (s : State)
    (hf : ∀ r, (f r).motion = r.motion ∧ (f r).group = r.group ∧ (f r).returnMark = r.returnMark) : SamePlaces s (s.modDish d f) := fun e => by
  by_cases he : e = d
  · subst he
    obtain ⟨h1, h2, h3⟩ := hf s.dishes[e]
    rw [modDish_place, h1, h2, h3]
    rfl
  · exact modDish_onlyAt d f s e he

theorem memberDishes_setGroup_same (s : State) (g : GroupNo) (o : Option Group) :
    (s.setGroup g o).memberDishes g = match o with
      | some gr => gr.members.map fun m => m.dish
      | none => [] := by
  unfold State.memberDishes State.entries
  rw [State.setGroup_same]
  cases o <;> rfl

theorem memberDishes_setGroup_other (s : State) (g h : GroupNo) (o : Option Group) (hh : h ≠ g) :
    (s.setGroup g o).memberDishes h = s.memberDishes h := by
  unfold State.memberDishes State.entries
  rw [State.setGroup_other _ _ _ _ hh]

/-- The member dishes of a group that stands. -/
theorem memberDishes_some {s : State} {g : GroupNo} {gr : Group} (h : s.groups[g] = some gr) :
    s.memberDishes g = gr.members.map fun m => m.dish := by
  unfold State.memberDishes State.entries; rw [h]

theorem memberDishes_none {s : State} {g : GroupNo} (h : s.groups[g] = none) : s.memberDishes g = [] := by
  unfold State.memberDishes State.entries; rw [h]; rfl

/-- A group table whose member dishes are the same. -/
theorem samePlaces_groups {s t : State} (hd : t.dishes = s.dishes) (hg : ∀ g, t.memberDishes g = s.memberDishes g)
    (hq : t.stowQueue = s.stowQueue) (ht : t.tags = s.tags) : SamePlaces s t := fun d => by
  unfold State.place State.coverage
  rw [hd, hq, ht]
  simp only [hg]

/-- A group record replaced by one with the same member dishes. -/
theorem setGroup_same {s : State} {g : GroupNo} {gr new : Group} (h : s.groups[g] = some gr)
    (hm : new.members.map (fun m => m.dish) = gr.members.map fun m => m.dish) : SamePlaces s (s.setGroup g (some new)) := by
  refine samePlaces_groups rfl (fun k => ?_) rfl rfl
  by_cases hk : k = g
  · subst hk; rw [memberDishes_setGroup_same, memberDishes_some h]; exact hm
  · exact memberDishes_setGroup_other s g k _ hk

theorem modGroup_eq_setGroup (s : State) (g : GroupNo) (f : Group → Group) : s.modGroup g f = s.setGroup g (s.groups[g].map f) := rfl

theorem modGroup_same (s : State) (g : GroupNo) (f : Group → Group)
    (hf : ∀ gr, (f gr).members.map (fun m => m.dish) = gr.members.map fun m => m.dish) : SamePlaces s (s.modGroup g f) := by
  rw [modGroup_eq_setGroup]
  cases h : s.groups[g] with
  | none =>
    refine samePlaces_groups rfl (fun k => ?_) rfl rfl
    by_cases hk : k = g
    · subst hk; rw [memberDishes_setGroup_same, memberDishes_none h]; rfl
    · exact memberDishes_setGroup_other s g k _ hk
  | some gr => exact setGroup_same h (hf gr)

/-- An entry changed keeps its dish. -/
theorem modMember_same (g : GroupNo) (d : DishNo) (f : Member → Member) (hf : ∀ m, (f m).dish = m.dish) (s : State) :
    SamePlaces s (modMember g d f s) := by
  refine modGroup_same s g _ fun gr => ?_
  dsimp only
  rw [List.map_map]
  refine List.map_congr_left fun m _ => ?_
  dsimp only [Function.comp]
  split
  · exact hf m
  · rfl

theorem judged_dishes (gr : Group) : gr.judged.members.map (fun m => m.dish) = gr.members.map fun m => m.dish := by
  unfold Group.judged
  split
  · rfl
  · split
    · rfl
    · dsimp only; rw [List.map_map]; rfl
    · rfl

theorem judgeGroup_same (g : GroupNo) (s : State) : SamePlaces s (judgeGroup g s) := by
  unfold judgeGroup
  split
  · exact .refl s
  case h_2 gr h =>
    have judged : SamePlaces s (s.setGroup g (some gr.judged)) := setGroup_same h (judged_dishes gr)
    dsimp only
    split
    · exact judged
    · exact judged.trans (samePlaces_of rfl rfl rfl rfl)

/-! ### Operations that leave every place -/

theorem raise_same_places (c : Cond) (items : List Nat) (s : State) : SamePlaces s (raise c items s) := samePlaces_of rfl rfl rfl rfl

theorem postMotion_same (d : DishNo) (o : Order) (s : State) : SamePlaces s (postMotion d o s) := by
  rw [postMotion_touches]; exact samePlaces_of rfl rfl rfl rfl

theorem postHeat_same (d : DishNo) (on : Bool) (s : State) : SamePlaces s (postHeat d on s) := by
  rw [postHeat_touches]; exact samePlaces_of rfl rfl rfl rfl

theorem setKind_same (d : DishNo) (k : ResKind) (s : State) : SamePlaces s (setKind d k s) := samePlaces_of rfl rfl rfl rfl

theorem releaseDrive_same (d : DishNo) (s : State) : SamePlaces s (releaseDrive d s) := by
  rw [releaseDrive_eq]; exact samePlaces_of rfl rfl rfl rfl

theorem grantDrive_same (d : DishNo) (k : ResKind) (level : Nat) (s : State) : SamePlaces s (grantDrive d k level s) :=
  samePlaces_of rfl rfl rfl rfl

theorem openWindow_same (d : DishNo) (s : State) : SamePlaces s (openWindow d s) := by
  rw [openWindow_touches]; exact samePlaces_of rfl rfl rfl rfl

theorem closeWindow_same (d : DishNo) (s : State) : SamePlaces s (closeWindow d s) := by
  rw [closeWindow_touches]; exact samePlaces_of rfl rfl rfl rfl

theorem lowerDuty_same (d : DishNo) (duty : Nat) (s : State) : SamePlaces s (lowerDuty d duty s) := by
  rw [lowerDuty_touches]; exact samePlaces_of rfl rfl rfl rfl

theorem lowerToDemand_same (d : DishNo) (s : State) : SamePlaces s (lowerToDemand d s) := by
  unfold lowerToDemand; split
  · exact (lowerDuty_same d _ s).trans (samePlaces_of rfl rfl rfl rfl)
  · exact .refl s

theorem shed_same (floor need : Nat) (s : State) : SamePlaces s (shed floor need s) := by
  rw [shed_touches]; exact samePlaces_of rfl rfl rfl rfl

theorem setStowMove_same (d : DishNo) (o : Option StowMove) (s : State) : SamePlaces s (s.setStowMove d o) := samePlaces_of rfl rfl rfl rfl

theorem startQuiet_same (d : DishNo) (s : State) : SamePlaces s (startQuiet d s) := by
  refine SamePlaces.trans ?_ (releaseDrive_same d _)
  exact modDish_same d _ s fun _ => ⟨rfl, rfl, rfl⟩

theorem meltLockout_same (d : DishNo) (s : State) : SamePlaces s (meltLockout d s) := by
  have locked : SamePlaces s ((s.modCircuit d fun c => { c with demand := 0, window := none }).modGrant d fun g => { g with duty := 0 }) :=
    samePlaces_of rfl rfl rfl rfl
  unfold meltLockout; dsimp only; split
  · exact locked.trans (postHeat_same d false _)
  · exact (locked.trans (postHeat_same d false _)).trans (samePlaces_of rfl rfl rfl rfl)

theorem turnTags_same (d : DishNo) (old new : TagState) (s : State) : SamePlaces s (turnTags d old new s) := fun e => by
  unfold State.place
  rw [show (turnTags d old new s).coverage e = s.coverage e from coverageIn_congr (turnTags_bare d old new s) e]
  rfl

/-! ### Places after the operations on one dish -/

theorem setMotion_onlyAt (d : DishNo) (m : MotionState) (s : State) : OnlyAt d s (setMotion d m s) := modDish_onlyAt d _ s

theorem setMotion_place (d : DishNo) (m : MotionState) (s : State) : (setMotion d m s).place d = { s.place d with motion := m } :=
  modDish_place d _ s

theorem setQueue_place (q : List DishNo) (s : State) (d : DishNo) : (s.setQueue q).place d = { s.place d with queued := q.count d } := rfl

/-- A dish appended to the queue. -/
theorem append_onlyAt (d : DishNo) (s : State) : OnlyAt d s (s.setQueue (s.stowQueue ++ [d])) := fun e he => by
  rw [setQueue_place, List.count_append, List.count_singleton, beq_false_of_ne (Ne.symm he)]
  rfl

theorem joinQueue_onlyAt (d : DishNo) (s : State) : OnlyAt d s (joinQueue d s) :=
  ((append_onlyAt d s).trans (modDish_onlyAt d _ _)).trans ((samePlaces_of rfl rfl rfl rfl : SamePlaces
    (setMotion d .stowQueued (s.setQueue (s.stowQueue ++ [d]))) (joinQueue d s)).onlyAt d)

theorem joinQueue_place (d : DishNo) (s : State) :
    (joinQueue d s).place d = { s.place d with motion := .stowQueued, queued := (s.place d).queued + 1 } := by
  have : (joinQueue d s).place d = (setMotion d .stowQueued (s.setQueue (s.stowQueue ++ [d]))).place d :=
    samePlaces_of (s := setMotion d .stowQueued (s.setQueue (s.stowQueue ++ [d]))) rfl rfl rfl rfl d
  rw [this, setMotion_place, setQueue_place, List.count_append, List.count_singleton_self]
  rfl

theorem leaveQueue_onlyAt (d : DishNo) (s : State) : OnlyAt d s (leaveQueue d s) := fun e he => by
  rw [leaveQueue_eq]
  unfold State.place
  dsimp only
  rw [List.count_filter (by simpa using he)]
  rfl

theorem leaveQueue_place (d : DishNo) (s : State) : (leaveQueue d s).place d = { s.place d with queued := 0 } := by
  rw [leaveQueue_eq]
  unfold State.place
  dsimp only
  rw [List.count_eq_zero.mpr fun h => by simp at h]
  rfl

theorem settle_onlyAt (d : DishNo) (s : State) : OnlyAt d s (settle d s) := by
  unfold settle
  dsimp only
  split
  · exact (modDish_onlyAt d _ s).trans (joinQueue_onlyAt d _)
  · split <;> exact (modDish_onlyAt d _ s).trans (modDish_onlyAt d _ _)

theorem settle_place (d : DishNo) (s : State) : (settle d s).place d = { s.place d with
    motion := s.settlesTo d, group := none, mark := false
    queued := (s.place d).queued + if s.settlesTo d = .stowQueued then 1 else 0 } := by
  unfold settle State.settlesTo
  dsimp only
  split
  · rw [joinQueue_place, modDish_place]; rfl
  · split <;> rw [setMotion_place, modDish_place] <;> rfl

/-- R6: where settling leads. -/
theorem settlesTo_cases (s : State) (d : DishNo) :
    (s.settlesTo d = .stowQueued ∧ (s.coverage d).el = false) ∨ s.settlesTo d = .locked ∨
    (s.settlesTo d = .free ∧ (s.coverage d).motion = false) := by
  unfold State.settlesTo
  split
  case isTrue h => exact .inl ⟨rfl, by simpa using (Bool.and_eq_true_iff.mp h).2⟩
  case isFalse =>
    split
    · exact .inr (.inl rfl)
    case isFalse h => exact .inr (.inr ⟨rfl, Bool.not_eq_true _ ▸ h⟩)

/-- R6: a dish in no list and not queued is in order once settled. -/
theorem settle_ok {d : DishNo} {s : State} (hu : (s.place d).Unlisted) (hq : (s.place d).queued = 0) : ((settle d s).place d).Ok := by
  rw [settle_place, hq, Nat.zero_add]
  rcases settlesTo_cases s d with ⟨e, hc⟩ | e | ⟨e, hc⟩ <;> rw [e]
  · exact .of_unlisted hu nofun nofun nofun rfl (fun _ => nofun) (fun h => absurd (h.symm.trans hc) (by simp))
  · exact .of_unlisted hu nofun nofun nofun rfl (fun _ => nofun) (fun _ => ⟨nofun, nofun⟩)
  · exact .of_unlisted hu nofun nofun nofun rfl (fun h => absurd (h.symm.trans hc) (by simp)) (fun _ => ⟨nofun, nofun⟩)

theorem goStopping_onlyAt (d : DishNo) (keep : Bool) (s : State) : OnlyAt d s (goStopping d keep s) := by
  have first : OnlyAt d s (if keep then s else s.modDish d fun r => { r with group := none }) := by
    split
    · exact .refl d s
    · exact modDish_onlyAt d _ s
  unfold goStopping
  dsimp only
  split
  · exact first
  · exact (((first.trans (setMotion_onlyAt d .stopping _)).trans ((setStowMove_same d none _).onlyAt d)).trans
      ((postMotion_same d .hold _).onlyAt d)).trans ((setKind_same d .stop _).onlyAt d)

theorem goStopping_place (d : DishNo) (keep : Bool) (s : State) : (goStopping d keep s).place d = { s.place d with
    motion := .stopping, group := if keep then (s.place d).group else none } := by
  have first : (if keep then s else s.modDish d fun r => { r with group := none }).place d =
      { s.place d with group := if keep then (s.place d).group else none } := by
    cases keep
    · exact modDish_place d (fun r => { r with group := none }) s
    · rfl
  unfold goStopping
  dsimp only
  split
  case isTrue h =>
    rw [first]
    have hm : (s.place d).motion = .stopping := h
    rw [← hm]
  case isFalse =>
    rw [setKind_same d .stop _ d, postMotion_same d .hold _ d, setStowMove_same d none _ d, setMotion_place, first]

theorem leaveIfQueued_onlyAt (d : DishNo) (s : State) : OnlyAt d s (if s.dishes[d].motion = .stowQueued then leaveQueue d s else s) := by
  split
  · exact leaveQueue_onlyAt d s
  · exact .refl d s

theorem leaveIfQueued_place (d : DishNo) (s : State) : (if s.dishes[d].motion = .stowQueued then leaveQueue d s else s).place d =
    { s.place d with queued := if (s.place d).motion = .stowQueued then 0 else (s.place d).queued } := by
  split
  case isTrue h => rw [leaveQueue_place, if_pos (show (s.place d).motion = .stowQueued from h)]
  case isFalse h => rw [if_neg (show (s.place d).motion ≠ .stowQueued from h)]

theorem goCut_onlyAt (d : DishNo) (why : CutReason) (post : Bool) (s : State) : OnlyAt d s (goCut d why post s) := by
  unfold goCut
  split
  · exact .refl d s
  · have cut := ((((leaveIfQueued_onlyAt d s).trans (modDish_onlyAt d (fun r =>
      { r with motion := .cut, cutReason := some why, group := none, quiet := none, quietStopped := false }) _)).trans
      ((setStowMove_same d none _).onlyAt d)).trans
      ((setKind_same d .stop _).onlyAt d)).trans ((raise_same_places .dishCut [d.val] _).onlyAt d)
    dsimp only
    split
    · exact cut.trans ((postMotion_same d .cut _).onlyAt d)
    · exact cut

/-- R13: a dish not CUT yet goes to CUT, out of the queue and of any group. -/
theorem goCut_place {d : DishNo} {s : State} (why : CutReason) (post : Bool) (h : (s.place d).motion ≠ .cut) :
    (goCut d why post s).place d = { s.place d with
      motion := .cut, group := none, queued := if (s.place d).motion = .stowQueued then 0 else (s.place d).queued } := by
  have cut (u : State) : (raise .dishCut [d.val] (setKind d .stop ((u.modDish d fun r =>
      { r with motion := .cut, cutReason := some why, group := none, quiet := none, quietStopped := false }).setStowMove d none))).place d =
      { u.place d with motion := .cut, group := none } := by
    rw [raise_same_places _ _ _ d, setKind_same d .stop _ d, setStowMove_same d none _ d, modDish_place]
    rfl
  unfold goCut
  rw [if_neg (show s.dishes[d].motion ≠ .cut from h)]
  dsimp only
  split
  · rw [postMotion_same d .cut _ d, cut, leaveIfQueued_place]
  · rw [cut, leaveIfQueued_place]

theorem goUnreachable_onlyAt (d : DishNo) (s : State) : OnlyAt d s (goUnreachable d s) :=
  (((leaveIfQueued_onlyAt d s).trans (modDish_onlyAt d (fun r => { r with
    motion := .unreachable, returnMark := false, group := none, targets := none, cutReason := none, quiet := none, quietStopped := false }) _)).trans
    ((setStowMove_same d none _).onlyAt d)).trans ((setKind_same d .retained _).onlyAt d)

/-- R16: the entry to UNREACHABLE. -/
theorem goUnreachable_place (d : DishNo) (s : State) : (goUnreachable d s).place d = { s.place d with
    motion := .unreachable, group := none, mark := false, queued := if (s.place d).motion = .stowQueued then 0 else (s.place d).queued } := by
  unfold goUnreachable
  dsimp only
  rw [setKind_same d .retained _ d, setStowMove_same d none _ d, modDish_place, leaveIfQueued_place]

theorem startStow_onlyAt (d : DishNo) (s : State) : OnlyAt d s (startStow d s) := by
  unfold startStow
  refine OnlyAt.trans ?_ ((postMotion_same d _ _).onlyAt d)
  refine OnlyAt.trans ?_ ((setStowMove_same d _ _).onlyAt d)
  exact modDish_onlyAt d _ s

/-- R118: the start of a stow move. -/
theorem startStow_place (d : DishNo) (s : State) : (startStow d s).place d = { s.place d with motion := .stowing, group := none } := by
  unfold startStow
  rw [postMotion_same d _ _ d, setStowMove_same d _ _ d, modDish_place]
  rfl

/-! ### What leaves a place in order -/

/-- Out of the queue, where the dish stood in it. -/
theorem Place.Ok.left_queue {p : Place} (h : p.Ok) : (if p.motion = .stowQueued then 0 else p.queued) = 0 := by
  split
  · rfl
  · exact h.not_queued ‹_›

/-- R13: a dish in no list is in order once CUT. -/
theorem goCut_ok {d : DishNo} {why : CutReason} {post : Bool} {s : State} (hu : (s.place d).Unlisted)
    (hq : (if (s.place d).motion = .stowQueued then 0 else (s.place d).queued) = 0) (hc : (s.place d).motion ≠ .cut) :
    ((goCut d why post s).place d).Ok := by
  rw [goCut_place why post hc, hq]
  exact .of_unlisted hu nofun nofun (fun _ => .inr (.inl rfl)) rfl (fun _ => nofun) fun _ => ⟨nofun, nofun⟩

theorem goUnreachable_ok {d : DishNo} {s : State} (hu : (s.place d).Unlisted)
    (hq : (if (s.place d).motion = .stowQueued then 0 else (s.place d).queued) = 0) : ((goUnreachable d s).place d).Ok := by
  rw [goUnreachable_place, hq]
  exact .of_unlisted hu nofun nofun nofun rfl (fun _ => nofun) fun _ => ⟨nofun, nofun⟩

theorem goStopping_ok {d : DishNo} {s : State} (hu : (s.place d).Unlisted) (hq : (s.place d).queued = 0) :
    ((goStopping d false s).place d).Ok := by
  rw [goStopping_place]
  exact .of_unlisted hu nofun (fun _ => rfl) (fun _ => .inl rfl) hq (fun _ => nofun) fun _ => ⟨nofun, nofun⟩

theorem startStow_ok {d : DishNo} {s : State} (hu : (s.place d).Unlisted) (hq : (s.place d).queued = 0) (hk : (s.place d).mark = false)
    (he : (s.place d).cover.el = false) : ((startStow d s).place d).Ok := by
  rw [startStow_place]
  exact .of_unlisted hu nofun nofun (fun h => absurd (hk.symm.trans h) (by simp)) hq (fun _ => nofun)
    (fun h => absurd (he.symm.trans h) (by simp))

/-! ### The serve (R116) -/

theorem shedForStow_same (need : Int) (s : State) : SamePlaces s (shedForStow need s) := shed_same 0 (need - s.pFree).toNat s

theorem serveHead_onlyAt (d : DishNo) (s : State) : OnlyAt d s (serveHead d s) :=
  (((shedForStow_same _ s).trans (grantDrive_same d .stow _ _)).onlyAt d).trans (startStow_onlyAt d _)

theorem serveHead_place (d : DishNo) (s : State) : (serveHead d s).place d = { s.place d with motion := .stowing, group := none } := by
  unfold serveHead
  rw [startStow_place, grantDrive_same d .stow _ _ d, shedForStow_same _ s d]

/-- R74: the head served leaves the queue for its stow move. -/
theorem serveHead_kept {d : DishNo} {rest : List DishNo} {s : State} (h : s.stowQueue = d :: rest) :
    SiteKept s (serveHead d (s.setQueue rest)) := by
  have cut : OnlyAt d s (s.setQueue rest) := fun e he => by
    unfold State.place
    rw [h, List.count_cons_of_ne (Ne.symm he)]
    rfl
  have head : (s.place d).queued = rest.count d + 1 := by
    unfold State.place
    rw [h, List.count_cons_self]
  refine (cut.trans (serveHead_onlyAt d _)).kept fun ok => ?_
  have queued : (s.place d).motion = .stowQueued := by
    by_contra hn
    rw [ok.not_queued hn] at head
    omega
  have out : rest.count d = 0 := by
    rw [ok.queued, if_pos queued] at head
    omega
  have el : (s.place d).cover.el = false := by
    rw [← Bool.not_eq_true]
    exact fun he => (ok.lockedEl he).1 queued
  rw [serveHead_place, setQueue_place, out]
  have unlisted : (s.place d).Unlisted := ok.unlisted (by rw [queued]; nofun) (by rw [queued]; nofun)
  have unmarked := ok.unmarked (by rw [queued]; nofun) (by rw [queued]; nofun) (by rw [queued]; nofun)
  exact .of_unlisted unlisted nofun nofun (fun h => absurd (unmarked.symm.trans h) (by simp)) rfl (fun _ => nofun)
    (fun h => absurd (el.symm.trans h) (by simp))

theorem serveLoop_kept (fuel : Nat) (s : State) : SiteKept s (serveLoop fuel s) := by
  induction fuel generalizing s with
  | zero => exact .refl s
  | succ n ih =>
    unfold serveLoop
    split
    · exact .refl s
    · split
      · exact (serveHead_kept ‹_›).trans (ih _)
      · exact .refl s

theorem serve_kept (s : State) : SiteKept s (serve s) :=
  SiteKept.trans (t := { s with serveDue := false }) (SamePlaces.kept (samePlaces_of rfl rfl rfl rfl)) (serveLoop_kept _ _)

theorem serveIfDue_kept (s : State) : SiteKept s (serveIfDue s) := by
  unfold serveIfDue; split
  · exact serve_kept s
  · exact .refl s

end Machine
end Sys2Proof
end

section
/-! PROOFS. SiteLaw through removals, visits, replies and the requests (O59, continued). -/

namespace Sys2Proof
namespace Machine

/-! ### Entries and removals (R38, R53) -/

/-- A dish without an entry stands in no list. -/
theorem memberOf_none_iff (s : State) (d : DishNo) : s.memberOf d = none ↔ (s.place d).Unlisted := by
  rw [unlisted_iff]
  unfold State.memberOf
  rw [List.findSome?_eq_none_iff]
  refine ⟨fun h g hm => ?_, fun h g _ => ?_⟩
  · have hg := h g (List.mem_finRange g)
    unfold State.memberDishes State.entries at hm
    split at hg
    case h_1 gr e =>
      rw [e] at hm
      obtain ⟨m, hm, hd⟩ := List.mem_map.mp hm
      have none := List.find?_eq_none.mp (Option.map_eq_none_iff.mp hg) m hm
      simp [hd] at none
    case h_2 e => rw [e] at hm; cases hm
  · split
    case h_1 gr e =>
      rw [Option.map_eq_none_iff, List.find?_eq_none]
      intro m hm hd
      refine h g ?_
      rw [memberDishes_some e]
      exact List.mem_map.mpr ⟨m, hm, of_decide_eq_true hd⟩
    · rfl

/-- The entry found is an entry of the dish in a group that stands. -/
theorem memberOf_some {s : State} {d : DishNo} {g : GroupNo} {m : Member} (h : s.memberOf d = some (g, m)) :
    ∃ gr, s.groups[g] = some gr ∧ m ∈ gr.members ∧ m.dish = d := by
  unfold State.memberOf at h
  obtain ⟨k, _, hk⟩ := List.exists_of_findSome?_eq_some h
  split at hk
  case h_1 gr e =>
    obtain ⟨x, hx, hxe⟩ := Option.map_eq_some_iff.mp hk
    cases hxe
    exact ⟨gr, e, List.mem_of_find?_eq_some hx, of_decide_eq_true (List.find?_some (p := fun m : Member => decide (m.dish = d)) hx)⟩
  case h_2 => cases hk

theorem listed_of_memberOf {s : State} {d : DishNo} {g : GroupNo} {m : Member} (h : s.memberOf d = some (g, m)) :
    0 < (s.place d).listed g := by
  obtain ⟨gr, e, hm, hd⟩ := memberOf_some h
  refine List.count_pos_iff.mpr ?_
  rw [memberDishes_some e]
  exact List.mem_map.mpr ⟨m, hm, hd⟩

/-- A place out of every group. -/
def Place.detached (p : Place) : Place := { p with group := none, listed := fun _ => 0 }

theorem Place.detached_unlisted (p : Place) : p.detached.Unlisted := fun _ => rfl

/-- The members of a group but one. -/
theorem filter_dishes (ms : List Member) (d : DishNo) :
    (ms.filter fun m => m.dish ≠ d).map (fun m => m.dish) = (ms.map fun m => m.dish).filter fun e => e ≠ d := by
  rw [List.filter_map]; rfl

/-- A group's list without one dish. -/
theorem dropFrom_onlyAt {g : GroupNo} {d : DishNo} {f : Group → Group} (s : State)
    (hf : ∀ gr, (f gr).members = gr.members.filter fun m => m.dish ≠ d) : OnlyAt d s (s.modGroup g f) := fun e he => by
  have same (h : GroupNo) : ((s.modGroup g f).memberDishes h).count e = (s.memberDishes h).count e := by
    rw [modGroup_eq_setGroup]
    by_cases hk : h = g
    · subst hk
      rw [memberDishes_setGroup_same]
      cases hg : s.groups[h] with
      | none => rw [memberDishes_none hg]; rfl
      | some gr =>
        rw [memberDishes_some hg]
        change ((f gr).members.map _).count e = _
        rw [hf, filter_dishes, List.count_filter (by simpa using he)]
    · rw [memberDishes_setGroup_other s g h _ hk]
  unfold State.place
  simp only [same]
  rfl

theorem dropFrom_place {g : GroupNo} {d : DishNo} {f : Group → Group} (s : State)
    (hf : ∀ gr, (f gr).members = gr.members.filter fun m => m.dish ≠ d) :
    (s.modGroup g f).place d = { s.place d with listed := fun h => if h = g then 0 else (s.place d).listed h } := by
  have count (h : GroupNo) : ((s.modGroup g f).memberDishes h).count d = if h = g then 0 else (s.memberDishes h).count d := by
    rw [modGroup_eq_setGroup]
    split
    case isTrue hk =>
      subst hk
      rw [memberDishes_setGroup_same]
      cases hg : s.groups[h] with
      | none => rfl
      | some gr =>
        change ((f gr).members.map _).count d = 0
        rw [hf, filter_dishes, List.count_eq_zero]
        simp
    case isFalse hk => rw [memberDishes_setGroup_other s g h _ hk]
  unfold State.place
  simp only [count]
  rfl

theorem removeMember_onlyAt {g : GroupNo} {d : DishNo} {why : RemovalReason} {transition : State → State} (s : State)
    (ht : ∀ u, OnlyAt d u (transition u)) : OnlyAt d s (removeMember g d why transition s) := by
  unfold removeMember
  refine OnlyAt.trans ?_ ((judgeGroup_same g _).onlyAt d)
  refine OnlyAt.trans ?_ (ht _)
  exact (dropFrom_onlyAt s fun _ => rfl).trans (modDish_onlyAt d _ _)

/-- R53: after a removal the place is what the transition makes of it out of its group. -/
theorem removeMember_ok {g : GroupNo} {d : DishNo} {why : RemovalReason} {transition : State → State} {s : State}
    (hl : ∀ h, h ≠ g → (s.place d).listed h = 0) (ht : ∀ u, u.place d = (s.place d).detached → ((transition u).place d).Ok) :
    ((removeMember g d why transition s).place d).Ok := by
  unfold removeMember
  rw [judgeGroup_same g _ d]
  refine ht _ ?_
  rw [modDish_place, dropFrom_place (f := Group.remove d why) s fun _ => rfl]
  have none : (fun h => if h = g then 0 else (s.place d).listed h) = fun _ => 0 := by
    funext h
    split
    · rfl
    · exact hl h ‹_›
  rw [none]
  rfl

/-- A place in one list stands in no other, is not queued, carries no mark and is not under motion coverage. -/
structure Place.Member (p : Place) (g : GroupNo) : Prop where
  motion   : p.motion = .member ∨ p.motion = .stopping
  alone    : ∀ h, h ≠ g → p.listed h = 0
  queued   : p.queued = 0
  unmarked : p.mark = false
  open_    : p.cover.motion = false

theorem Place.Ok.in_list {p : Place} {g : GroupNo} (h : p.Ok) (hg : 0 < p.listed g) : p.Member g := by
  obtain ⟨motion, group⟩ := h.member g hg
  refine ⟨motion, fun k hk => Nat.eq_zero_of_not_pos fun hp => hk ?_, h.not_queued ?_, ?_, ?_⟩
  · have := (h.member k hp).2
    rw [group] at this
    exact (Option.some.inj this).symm
  · rcases motion with e | e <;> rw [e] <;> nofun
  · rw [← Bool.not_eq_true]
    exact fun hm => absurd ((h.mark hm).2 g) (Nat.ne_of_gt hg)
  · rw [← Bool.not_eq_true]
    exact fun hm => absurd ((h.locked hm).2.2 g) (Nat.ne_of_gt hg)

/-- R53: a removal with a transition that leaves the dish in order. -/
theorem removeMember_kept {g : GroupNo} {d : DishNo} {why : RemovalReason} {transition : State → State} {s : State}
    (hg : 0 < (s.place d).listed g) (ho : ∀ u, OnlyAt d u (transition u))
    (ht : (s.place d).Member g → ∀ u, u.place d = (s.place d).detached → ((transition u).place d).Ok) :
    SiteKept s (removeMember g d why transition s) :=
  (removeMember_onlyAt s ho).kept fun ok => removeMember_ok (ok.in_list hg).alone (ht (ok.in_list hg))

theorem goCut_kept {d : DishNo} {why : CutReason} {post : Bool} {s : State} (hu : (s.place d).Unlisted) : SiteKept s (goCut d why post s) := by
  by_cases hc : s.dishes[d].motion = .cut
  · rw [goCut_of_cut d why post s hc]; exact .refl s
  · exact (goCut_onlyAt d why post s).kept fun ok => goCut_ok hu ok.left_queue hc

/-- Neither MEMBER nor STOPPING is queued. -/
theorem Place.Member.left_queue {p : Place} {g : GroupNo} (h : p.Member g) : (if p.motion = .stowQueued then 0 else p.queued) = 0 := by
  rw [h.queued]; split <;> rfl

theorem cutDish_kept (d : DishNo) (why : CutReason) (post : Bool) (s : State) : SiteKept s (cutDish d why post s) := by
  unfold cutDish
  split
  case h_1 g m hm =>
    refine removeMember_kept (listed_of_memberOf hm) (goCut_onlyAt d why post) fun pm u hu => ?_
    refine goCut_ok (by rw [hu]; exact Place.detached_unlisted _) (by rw [hu]; exact pm.left_queue) (by
      rw [hu]
      change (s.place d).motion ≠ .cut
      rcases pm.motion with e | e <;> rw [e] <;> nofun)
  case h_2 hn => exact goCut_kept ((memberOf_none_iff s d).mp hn)

theorem loseDish_kept (d : DishNo) (s : State) : SiteKept s (loseDish d s) := by
  unfold loseDish
  split
  · exact .refl s
  · split
    case h_1 g m hm =>
      refine removeMember_kept (listed_of_memberOf hm) (goUnreachable_onlyAt d) fun pm u hu => ?_
      exact goUnreachable_ok (by rw [hu]; exact Place.detached_unlisted _) (by rw [hu]; exact pm.left_queue)
    case h_2 hn =>
      exact (goUnreachable_onlyAt d s).kept fun ok => goUnreachable_ok ((memberOf_none_iff s d).mp hn) ok.left_queue

/-! ### The visits of a cell (R113, R123) -/

theorem convertOrHold_onlyAt (d : DishNo) (s : State) : OnlyAt d s (convertOrHold d s) := by
  unfold convertOrHold
  dsimp only
  split
  · exact (((shedForStow_same _ s).trans (grantDrive_same d .stow _ _)).onlyAt d).trans (startStow_onlyAt d _)
  · exact goStopping_onlyAt d false s

theorem convertOrHold_ok {d : DishNo} {s : State} (hu : (s.place d).Unlisted) (hq : (s.place d).queued = 0) (hk : (s.place d).mark = false)
    (he : (s.place d).cover.el = false) : ((convertOrHold d s).place d).Ok := by
  unfold convertOrHold
  dsimp only
  split
  · have same (level : Nat) (need : Int) : (grantDrive d .stow level (shedForStow need s)).place d = s.place d :=
      (grantDrive_same d .stow level _ d).trans (shedForStow_same need s d)
    exact startStow_ok (by rw [same]; exact hu) (by rw [same]; exact hq) (by rw [same]; exact hk) (by rw [same]; exact he)
  · exact goStopping_ok hu hq

/-- Without motion coverage there is no EL coverage. -/
theorem el_of_motion {c : Coverage} (h : c.motion = false) : c.el = false := (Bool.or_eq_false_iff.mp h).2

theorem settle_kept {d : DishNo} {s : State} (h : (s.place d).Ok → (s.place d).Unlisted ∧ (s.place d).queued = 0) : SiteKept s (settle d s) :=
  (settle_onlyAt d s).kept fun ok => settle_ok (h ok).1 (h ok).2

/-- R115: a dish in no list, not queued, without mark and EL coverage joins the queue. -/
theorem joinQueue_ok {d : DishNo} {s : State} (hu : (s.place d).Unlisted) (hq : (s.place d).queued = 0) (hk : (s.place d).mark = false)
    (he : (s.place d).cover.el = false) : ((joinQueue d s).place d).Ok := by
  rw [joinQueue_place, hq]
  exact .of_unlisted hu nofun nofun (fun h => absurd (hk.symm.trans h) (by simp)) rfl (fun _ => nofun)
    (fun h => absurd (he.symm.trans h) (by simp))

theorem enterStow_kept (d : DishNo) (s : State) : SiteKept s (enterStow d s) := by
  unfold enterStow
  split
  case h_1 hm =>
    refine (joinQueue_onlyAt d s).kept fun ok => ?_
    have free : (s.place d).motion = .free := hm
    refine joinQueue_ok (ok.unlisted (by rw [free]; nofun) (by rw [free]; nofun)) (ok.not_queued (by rw [free]; nofun))
      (ok.unmarked (by rw [free]; nofun) (by rw [free]; nofun) (by rw [free]; nofun)) (el_of_motion ?_)
    rw [← Bool.not_eq_true]
    exact fun hc => (ok.locked hc).1 free
  case h_2 hm =>
    split
    · exact .refl s
    case isFalse he =>
      refine (joinQueue_onlyAt d s).kept fun ok => ?_
      have locked : (s.place d).motion = .locked := hm
      exact joinQueue_ok (ok.unlisted (by rw [locked]; nofun) (by rw [locked]; nofun)) (ok.not_queued (by rw [locked]; nofun))
        (ok.unmarked (by rw [locked]; nofun) (by rw [locked]; nofun) (by rw [locked]; nofun)) (Bool.not_eq_true _ ▸ he)
  case h_3 =>
    split
    case h_1 g m hmem =>
      refine removeMember_kept (listed_of_memberOf hmem) (fun u => ?_) fun pm u hu => ?_
      · split
        · exact convertOrHold_onlyAt d u
        · exact settle_onlyAt d u
      · have unlisted : (u.place d).Unlisted := by rw [hu]; exact Place.detached_unlisted _
        have queued : (u.place d).queued = 0 := by rw [hu]; exact pm.queued
        split
        · exact convertOrHold_ok unlisted queued (by rw [hu]; exact pm.unmarked) (by rw [hu]; exact el_of_motion pm.open_)
        · exact settle_ok unlisted queued
    · exact .refl s
  case h_4 hm =>
    split
    case h_1 g m hmem =>
      refine removeMember_kept (listed_of_memberOf hmem) (fun u => .refl d u) fun pm u hu => ?_
      change (u.place d).Ok
      have stopping : (s.place d).motion = .stopping := hm
      rw [hu]
      refine .of_unlisted (Place.detached_unlisted _) ?_ (fun _ => rfl) ?_ ?_ ?_ ?_
      · change (s.place d).motion ≠ .member
        rw [stopping]; nofun
      · exact fun _ => .inl stopping
      · exact pm.queued.trans (by rw [if_neg]; change (s.place d).motion ≠ .stowQueued; rw [stopping]; nofun)
      · intro _
        change (s.place d).motion ≠ .free
        rw [stopping]; nofun
      · intro _
        change (s.place d).motion ≠ .stowQueued ∧ (s.place d).motion ≠ .stowing
        rw [stopping]; exact ⟨nofun, nofun⟩
    · exact .refl s
  case h_5 => exact .refl s

theorem leaveStow_kept (d : DishNo) (s : State) : SiteKept s (leaveStow d s) := by
  unfold leaveStow
  split
  case h_1 hm =>
    refine ((leaveQueue_onlyAt d s).trans (settle_onlyAt d _)).kept fun ok => ?_
    have queued : (s.place d).motion = .stowQueued := hm
    refine settle_ok ?_ ?_ <;> rw [leaveQueue_place]
    exact ok.unlisted (by rw [queued]; nofun) (by rw [queued]; nofun)
  case h_2 hm =>
    have stowed : (s.place d).motion = .stowed := hm
    exact settle_kept fun ok => ⟨ok.unlisted (by rw [stowed]; nofun) (by rw [stowed]; nofun), ok.not_queued (by rw [stowed]; nofun)⟩
  case h_3 => exact .refl s

theorem entryVisit_kept (c : CellNo) (s : State) : SiteKept s (entryVisit c s) :=
  (siteKept_foldl (fun t d => enterStow d t) (fun t d => enterStow_kept d t) _ s).trans (serve_kept _)

theorem leavingVisit_kept (c : CellNo) (s : State) : SiteKept s (leavingVisit c s) :=
  (siteKept_foldl (fun t d => leaveStow d t) (fun t d => leaveStow_kept d t) _ s).trans (serve_kept _)

theorem modCell_same (c : CellNo) (f : Cell → Cell) (s : State) : SamePlaces s (s.modCell c f) := samePlaces_of rfl rfl rfl rfl

theorem judgeCell_kept (c : CellNo) (s : State) : SiteKept s (judgeCell c s) := by
  unfold judgeCell
  dsimp only
  split
  · exact .refl s
  · have raised (x : CellState) : SiteKept s (raise .stowChanged [c.val] (s.modCell c fun y => { y with state := x })) :=
      ((modCell_same c _ s).trans (raise_same_places _ _ _)).kept
    split
    · exact (raised _).trans (entryVisit_kept c _)
    · split
      · exact (raised _).trans (leavingVisit_kept c _)
      · exact raised _

/-- R106: a cell's record changed and the cell judged. -/
theorem judgeCell_modCell_kept (c : CellNo) (f : Cell → Cell) (s : State) : SiteKept s (judgeCell c (s.modCell c f)) :=
  (modCell_same c f s).kept.trans (judgeCell_kept c _)

/-! ### Replies (R12, R14, R18, R48 to R50, R119) -/

theorem refusedReply_kept (d : DishNo) (o : Observed) (s : State) : SiteKept s (refusedReply d o s) := by
  unfold refusedReply
  dsimp only
  split
  · exact (cutDish_kept d _ _ s).trans (startQuiet_same d _).kept
  · exact cutDish_kept d _ _ s

theorem stopEnded_kept {d : DishNo} {s : State} (hm : s.dishes[d].motion = .stopping) : SiteKept s (stopEnded d s) := by
  have stopping : (s.place d).motion = .stopping := hm
  have released := releaseDrive_same d s
  have unqueued : (s.place d).Ok → (s.place d).queued = 0 := fun ok => ok.not_queued (by rw [stopping]; nofun)
  unfold stopEnded
  dsimp only
  split
  case isTrue hk =>
    refine ((released.onlyAt d).trans (setMotion_onlyAt d _ _)).kept fun ok => ?_
    rw [setMotion_place, released d]
    exact .of_unlisted (ok.mark hk).2 nofun nofun (fun _ => .inr (.inr rfl)) (unqueued ok) (fun _ => nofun) fun _ => ⟨nofun, nofun⟩
  case isFalse hk =>
    split
    case h_1 g hg =>
      have member : OnlyAt d s (modMember g d (fun m => { m with sub := .waiting }) (setMotion d .member (releaseDrive d s))) :=
        ((released.onlyAt d).trans (setMotion_onlyAt d .member _)).trans
          ((modMember_same g d (fun m => { m with sub := .waiting }) (fun _ => rfl) _).onlyAt d)
      refine (member.trans ((judgeGroup_same g _).onlyAt d)).kept fun ok => ?_
      rw [judgeGroup_same g _ d, modMember_same g d (fun m => { m with sub := .waiting }) (fun _ => rfl) _ d, setMotion_place, released d]
      have group : (s.place d).group = some g := hg
      have pm := ok.in_list (ok.listed (.inr stopping) g group)
      exact
        { once := ok.once
          member := fun k hk => ⟨.inl rfl, (ok.member k hk).2⟩
          named := fun _ => by rw [group]; rfl
          listed := fun _ => ok.listed (.inr stopping)
          mark := fun h => absurd (pm.unmarked.symm.trans h) (by simp)
          queued := pm.queued
          locked := fun h => absurd (pm.open_.symm.trans h) (by simp)
          lockedEl := fun h => absurd ((el_of_motion pm.open_).symm.trans h) (by simp) }
    case h_2 hg =>
      have group : (s.place d).group = none := hg
      refine released.kept.trans (settle_kept fun ok => ?_)
      rw [released d] at ok ⊢
      exact ⟨ok.unlisted_of_group group, unqueued ok⟩

theorem stoppingReply_kept {d : DishNo} {s : State} (hm : s.dishes[d].motion = .stopping) (o : Observed) :
    SiteKept s (stoppingReply d o s) := by
  unfold stoppingReply
  split
  · exact stopEnded_kept hm
  · split
    · exact cutDish_kept d _ _ s
    · exact .refl s

theorem memberArrives_same (g : GroupNo) (d : DishNo) (s : State) : SamePlaces s (memberArrives g d s) := by
  unfold memberArrives
  refine SamePlaces.trans ?_ (judgeGroup_same g _)
  refine SamePlaces.trans ?_ (releaseDrive_same d _)
  exact modMember_same g d (fun m => { m with sub := .arrived, deadline := none, arrival := some s.arrayClock }) (fun _ => rfl) s

theorem memberReply_kept (d : DishNo) (o : Observed) (took : Bool) (s : State) : SiteKept s (memberReply d o took s) := by
  unfold memberReply
  split
  · exact .refl s
  · split
    · exact cutDish_kept d _ _ s
    · split
      · exact .refl s
      · split
        · exact (memberArrives_same _ d s).kept
        · exact cutDish_kept d _ _ s

theorem stowArrives_kept {d : DishNo} {s : State} (hm : s.dishes[d].motion = .stowing) : SiteKept s (stowArrives d s) := by
  have stowing : (s.place d).motion = .stowing := hm
  have only : OnlyAt d s (releaseDrive d ((setMotion d .stowed s).setStowMove d none)) :=
    ((setMotion_onlyAt d .stowed s).trans ((setStowMove_same d none _).onlyAt d)).trans ((releaseDrive_same d _).onlyAt d)
  have place : (releaseDrive d ((setMotion d .stowed s).setStowMove d none)).place d = { s.place d with motion := .stowed } := by
    rw [releaseDrive_same d _ d, setStowMove_same d none _ d, setMotion_place]
  have unlisted : (s.place d).Ok → (s.place d).Unlisted := fun ok => ok.unlisted (by rw [stowing]; nofun) (by rw [stowing]; nofun)
  have unqueued : (s.place d).Ok → (s.place d).queued = 0 := fun ok => ok.not_queued (by rw [stowing]; nofun)
  unfold stowArrives
  dsimp only
  split
  · refine only.kept fun ok => ?_
    rw [place]
    have unmarked := ok.unmarked (by rw [stowing]; nofun) (by rw [stowing]; nofun) (by rw [stowing]; nofun)
    exact .of_unlisted (unlisted ok) nofun nofun (fun h => absurd (unmarked.symm.trans h) (by simp)) (unqueued ok) (fun _ => nofun)
      fun _ => ⟨nofun, nofun⟩
  · refine (only.trans (settle_onlyAt d _)).kept fun ok => settle_ok ?_ ?_ <;> rw [place]
    · exact unlisted ok
    · exact unqueued ok

theorem stowingReply_kept {d : DishNo} {s : State} (hm : s.dishes[d].motion = .stowing) (o : Observed) (took : Bool) :
    SiteKept s (stowingReply d o took s) := by
  unfold stowingReply
  split
  · exact cutDish_kept d _ _ s
  · split
    · split
      · exact stowArrives_kept hm
      · exact cutDish_kept d _ _ s
    · exact .refl s

theorem returnReply_kept {d : DishNo} {s : State} (hm : s.dishes[d].motion = .unreachable) (o : Observed) :
    SiteKept s (returnReply d o s) := by
  have lost : (s.place d).motion = .unreachable := hm
  have unlisted : (s.place d).Ok → (s.place d).Unlisted := fun ok => ok.unlisted (by rw [lost]; nofun) (by rw [lost]; nofun)
  have unqueued : (s.place d).Ok → (s.place d).queued = 0 := fun ok => ok.not_queued (by rw [lost]; nofun)
  unfold returnReply
  split
  · refine ((goStopping_onlyAt d false s).trans (modDish_onlyAt d _ _)).kept fun ok => ?_
    have place : ((goStopping d false s).modDish d fun r => { r with returnMark := true }).place d =
        { s.place d with motion := .stopping, group := none, mark := true } :=
      (modDish_place d _ _).trans (congrArg (fun p : Place => { p with mark := true }) (goStopping_place d false s))
    rw [place]
    exact .of_unlisted (unlisted ok) nofun (fun _ => rfl) (fun _ => .inl rfl) (unqueued ok) (fun _ => nofun) fun _ => ⟨nofun, nofun⟩
  · refine ((setMotion_onlyAt d .restrained s).trans ((releaseDrive_same d _).onlyAt d)).kept fun ok => ?_
    rw [releaseDrive_same d _ d, setMotion_place]
    have unmarked := ok.unmarked (by rw [lost]; nofun) (by rw [lost]; nofun) (by rw [lost]; nofun)
    exact .of_unlisted (unlisted ok) nofun nofun (fun _ => .inr (.inr rfl)) (unqueued ok) (fun _ => nofun) fun _ => ⟨nofun, nofun⟩

theorem cutReply_kept (d : DishNo) (o : Observed) (s : State) : SiteKept s (cutReply d o s) := by
  unfold cutReply
  split
  · split
    · exact (startQuiet_same d s).kept
    · exact .refl s
  · refine SamePlaces.kept ?_
    exact modDish_same d _ s fun _ => ⟨rfl, rfl, rfl⟩

theorem watchedReply_kept (d : DishNo) (r : Reply) (took isReturn : Bool) (s : State) : SiteKept s (watchedReply d r took isReturn s) := by
  unfold watchedReply
  split
  · exact refusedReply_kept d _ s
  · split
    case h_1 hm => exact stoppingReply_kept hm _
    case h_2 => exact memberReply_kept d _ _ s
    case h_3 hm => exact stowingReply_kept hm _ _
    case h_4 hm =>
      split
      · exact returnReply_kept hm _
      · exact .refl s
    case h_5 => exact cutReply_kept d _ s
    case h_6 => exact .refl s

theorem judgeTags_same (d : DishNo) (r : Reply) (took isReturn : Bool) (before s : State) :
    SamePlaces s (judgeTags d r took isReturn before s) := by
  unfold judgeTags
  split
  · exact turnTags_same d _ _ s
  · split
    · unfold holdTags
      split
      · exact .refl s
      · exact (turnTags_same d _ _ s).trans (raise_same_places _ _ _)
    · exact .refl s

theorem handleReply_kept (d : DishNo) (r : Reply) (took isReturn : Bool) (s : State) : SiteKept s (handleReply d r took isReturn s) := by
  have heat (u : State) : SamePlaces u (returnHeat d isReturn u) := by
    unfold returnHeat
    split
    · exact postHeat_same d _ u
    · exact .refl u
  unfold handleReply
  dsimp only
  refine SiteKept.trans ?_ (serveIfDue_kept _)
  refine SiteKept.trans ?_ (heat _).kept
  refine SiteKept.trans ?_ (judgeTags_same d r took isReturn _ _).kept
  refine SiteKept.trans ?_ (watchedReply_kept d r took isReturn _)
  refine SamePlaces.kept ?_
  exact modDish_same d _ s fun _ => ⟨rfl, rfl, rfl⟩

theorem setpointTaken_same (d : DishNo) (sp : Setpoint) (began : Nat) (s : State) : SamePlaces s (setpointTaken d sp began s) := by
  unfold setpointTaken
  split
  · unfold slewTaken
    split
    · split
      · refine modMember_same _ d _ ?_ s
        exact fun _ => rfl
      · exact .refl s
    · exact .refl s
  · unfold stowTaken
    split
    · exact setStowMove_same d _ s
    · exact .refl s

theorem modBus_same_places (d : DishNo) (f : BusRecord → BusRecord) (s : State) : SamePlaces s (s.modBus d f) := samePlaces_of rfl rfl rfl rfl

theorem endTransaction_kept (d : DishNo) (x : InFlight) (out : Judged) (s : State) : SiteKept s (endTransaction d x out s) := by
  unfold endTransaction
  split
  · split
    · exact (modBus_same_places d _ s).kept.trans (handleReply_kept d _ _ _ _)
    · unfold acceptedReply
      dsimp only
      refine SiteKept.trans (SamePlaces.kept ?_) (handleReply_kept d _ _ _ _)
      split
      · exact (modBus_same_places d _ s).trans (setpointTaken_same d _ _ _)
      · exact modBus_same_places d _ s
  · exact (modBus_same_places d _ s).kept
  case h_3 stage =>
    split
    · exact (modBus_same_places d _ s).kept
    · unfold failedOrder
      dsimp only
      split
      · refine SiteKept.trans (modBus_same_places d (fun b => { b with failures := b.failures + 1, lastStage := some stage }) s).kept ?_
        exact (((modBus_same_places d _ _).kept.trans (loseDish_kept d _)).trans (raise_same_places _ _ _).kept).trans (serveIfDue_kept _)
      · exact (modBus_same_places d _ s).kept

end Machine
end Sys2Proof
end

section
/-! PROOFS. SiteLaw through the group and tag requests and RESET COORDINATION, and through every step (O59, concluded). -/

namespace Sys2Proof
namespace Machine

/-! ### Dish requests -/

theorem describePresent_same (d : DishNo) (desc : Description) (s : State) : SamePlaces s (describePresent d desc s) := by
  have described : SamePlaces s (s.modDish d fun r => { r with present := true, desc := desc }) :=
    modDish_same d _ s fun _ => ⟨rfl, rfl, rfl⟩
  unfold describePresent; dsimp only; split
  · exact described
  · exact described.trans (modBus_same_places d _ _)

theorem describeAbsent_same (d : DishNo) (s : State) : SamePlaces s (describeAbsent d s) := by
  have absent : SamePlaces s (s.modDish d fun r => { r with present := false, desc := Description.default, observed := none }) :=
    modDish_same d _ s fun _ => ⟨rfl, rfl, rfl⟩
  unfold describeAbsent; dsimp only; split
  · exact absent.trans (samePlaces_of rfl rfl rfl rfl)
  · exact absent.trans (samePlaces_of rfl rfl rfl rfl)

theorem describe_kept (x : DescribeArgs) (s : State) : SiteKept s (describe x s).1 := by
  unfold describe
  split
  · split
    · exact .refl s
    · split
      · exact (describePresent_same _ _ s).kept
      · split
        · exact (describeAbsent_same _ s).kept.trans (serveIfDue_kept _)
        · exact .refl s
  · exact .refl s

/-- A dish that is RESTRAINED is settled into order. -/
theorem settle_restrained_kept {d : DishNo} {s : State} (hm : s.dishes[d].motion = .restrained) : SiteKept s (settle d s) := by
  have restrained : (s.place d).motion = .restrained := hm
  exact settle_kept fun ok => ⟨ok.unlisted (by rw [restrained]; nofun) (by rw [restrained]; nofun), ok.not_queued (by rw [restrained]; nofun)⟩

theorem resume_kept (n : Nat) (s : State) : SiteKept s (resume n s).1 := by
  unfold resume
  split
  · exact .refl s
  case h_2 d _ =>
    split
    · exact .refl s
    · split
      · exact .refl s
      case isFalse hm =>
        split
        · exact .refl s
        · split
          · exact (settle_restrained_kept (not_not.mp hm)).trans (serveIfDue_kept _)
          · exact .refl s

/-- A dish at rest in no group is taken out of use. -/
theorem restrained_kept {d : DishNo} {s : State} (hm : s.dishes[d].motion = .free ∨ s.dishes[d].motion = .locked) :
    SiteKept s (setMotion d .restrained s) := by
  have rest : (s.place d).motion ≠ .member ∧ (s.place d).motion ≠ .stopping ∧ (s.place d).motion ≠ .stowQueued := by
    change s.dishes[d].motion ≠ _ ∧ s.dishes[d].motion ≠ _ ∧ s.dishes[d].motion ≠ _
    rcases hm with e | e <;> rw [e] <;> exact ⟨nofun, nofun, nofun⟩
  refine (setMotion_onlyAt d _ s).kept fun ok => ?_
  rw [setMotion_place]
  exact .of_unlisted (ok.unlisted rest.1 rest.2.1) nofun nofun (fun _ => .inr (.inr rfl)) (ok.not_queued rest.2.2) (fun _ => nofun)
    fun _ => ⟨nofun, nofun⟩

theorem restrain_kept (n : Nat) (s : State) : SiteKept s (restrain n s).1 := by
  unfold restrain
  split
  · exact .refl s
  · split
    · exact .refl s
    · split
      case h_1 hm => exact restrained_kept (.inl hm)
      case h_2 hm => exact restrained_kept (.inr hm)
      · exact .refl s
      · exact .refl s

theorem writeOff_kept (n : Nat) (s : State) : SiteKept s (writeOff n s).1 := by
  unfold writeOff
  split
  · exact .refl s
  · split
    · exact .refl s
    · split
      · exact .refl s
      · exact (releaseDrive_same _ s).kept.trans (serveIfDue_kept _)

theorem endQuiet_kept {d : DishNo} {s : State} (hm : s.dishes[d].motion = .cut) : SiteKept s (endQuiet d s) := by
  have cut : (s.place d).motion = .cut := hm
  have unlisted : (s.place d).Ok → (s.place d).Unlisted := fun ok => ok.unlisted (by rw [cut]; nofun) (by rw [cut]; nofun)
  have unqueued : (s.place d).Ok → (s.place d).queued = 0 := fun ok => ok.not_queued (by rw [cut]; nofun)
  unfold endQuiet
  split
  · refine (modDish_onlyAt d _ s).kept fun ok => ?_
    rw [modDish_place]
    exact .of_unlisted (unlisted ok) nofun nofun nofun (unqueued ok) (fun _ => nofun) fun _ => ⟨nofun, nofun⟩
  · exact settle_kept fun ok => ⟨unlisted ok, unqueued ok⟩

/-! ### Group requests -/

theorem openGroup_kept (x : TargetArgs) (s : State) : SiteKept s (openGroup x s).1 := by
  unfold openGroup
  split
  · exact .refl s
  case h_2 g _ =>
    split
    · exact .refl s
    · split
      · exact .refl s
      case isFalse hn =>
        have none : s.groups[g] = none := by simpa using hn
        refine SamePlaces.kept (samePlaces_groups rfl (fun k => ?_) rfl rfl)
        change (s.setGroup g _).memberDishes k = _
        by_cases hk : k = g
        · subst hk; rw [memberDishes_setGroup_same, memberDishes_none none]; rfl
        · exact memberDishes_setGroup_other s g k _ hk

theorem reopened_dishes (gr : Group) : gr.reopened.members.map (fun m => m.dish) = gr.members.map fun m => m.dish := by
  unfold Group.reopened
  split
  · dsimp only; rw [List.map_map]; rfl
  · rfl

/-- R41: the new entry stands in the one list. -/
theorem enlist_memberDishes {s : State} {g : GroupNo} {gr : Group} (hg : s.groups[g] = some gr) (d : DishNo) (offsets : Option Angles)
    (h : GroupNo) : (enlist g gr d offsets s).memberDishes h = if h = g then s.memberDishes h ++ [d] else s.memberDishes h := by
  unfold enlist
  split
  case isTrue e =>
    subst e
    rw [memberDishes_setGroup_same, memberDishes_some hg]
    dsimp only
    rw [List.map_append, reopened_dishes]
    rfl
  case isFalse e => exact memberDishes_setGroup_other _ g h _ e

theorem enlist_onlyAt {s : State} {g : GroupNo} {gr : Group} (hg : s.groups[g] = some gr) (d : DishNo) (offsets : Option Angles) :
    OnlyAt d s (enlist g gr d offsets s) := fun e he => by
  have same (h : GroupNo) : ((enlist g gr d offsets s).memberDishes h).count e = (s.memberDishes h).count e := by
    rw [enlist_memberDishes hg]
    split
    · rw [List.count_append, List.count_singleton, beq_false_of_ne (Ne.symm he)]; rfl
    · rfl
  have dish := modDish_onlyAt d (fun r => { r with motion := .member, group := some g }) s e he
  unfold State.place at dish ⊢
  simp only [same]
  exact dish

theorem enlist_place {s : State} {g : GroupNo} {gr : Group} (hg : s.groups[g] = some gr) (d : DishNo) (offsets : Option Angles) :
    (enlist g gr d offsets s).place d = { s.place d with
      motion := .member, group := some g, listed := fun h => (s.place d).listed h + if h = g then 1 else 0 } := by
  have count (h : GroupNo) : ((enlist g gr d offsets s).memberDishes h).count d = (s.place d).listed h + if h = g then 1 else 0 := by
    rw [enlist_memberDishes hg]
    split
    · rw [List.count_append, List.count_singleton_self]; rfl
    · rfl
  have dish := modDish_place d (fun r => { r with motion := .member, group := some g }) s
  unfold State.place at dish ⊢
  simp only [count]
  have motion := congrArg Place.motion dish
  have group := congrArg Place.group dish
  have mark := congrArg Place.mark dish
  dsimp only at motion group mark
  unfold enlist
  dsimp only [State.setGroup_dishes]
  rw [motion, group, mark]
  rfl

theorem addMember_kept (x : AddArgs) (s : State) : SiteKept s (addMember x s).1 := by
  unfold addMember
  split
  case h_1 g d _ _ =>
    split
    · exact .refl s
    · split
      · exact .refl s
      case h_2 gr hg =>
        split_ifs
        · exact .refl s
        · exact .refl s
        · exact .refl s
        · exact .refl s
        · exact .refl s
        · exact .refl s
        case neg hcov hfree _ =>
          have open_ : (s.place d).cover.motion = false := Bool.not_eq_true _ ▸ hcov
          have free : (s.place d).motion = .free := not_not.mp hfree
          refine (enlist_onlyAt hg d x.offsets).kept fun ok => ?_
          rw [enlist_place hg]
          have unlisted := ok.unlisted (by rw [free]; nofun) (by rw [free]; nofun)
          have unmarked := ok.unmarked (by rw [free]; nofun) (by rw [free]; nofun) (by rw [free]; nofun)
          exact
            { once := fun h => by
                dsimp only
                rw [unlisted h]
                split <;> decide
              member := fun h hp => by
                dsimp only at hp
                rw [unlisted h] at hp
                split at hp
                case isTrue e => rw [e]; exact ⟨.inl rfl, rfl⟩
                case isFalse => exact absurd hp (by decide)
              named := fun _ => rfl
              listed := fun _ h hh => by
                rw [← Option.mem_some_iff.mp hh]
                dsimp only
                rw [if_pos rfl]
                exact Nat.succ_pos _
              mark := fun h => absurd (unmarked.symm.trans h) (by simp)
              queued := ok.not_queued (by rw [free]; nofun)
              locked := fun h => absurd (open_.symm.trans h) (by simp)
              lockedEl := fun h => absurd ((el_of_motion open_).symm.trans h) (by simp) }
  · exact .refl s

/-- R42: the entry dropped, the dish is in no list and settled. -/
theorem dropEntry_kept {g : GroupNo} {d : DishNo} {s : State} (hg : d ∈ s.memberDishes g) : SiteKept s (dropEntry g d s) := by
  unfold dropEntry
  refine ((dropFrom_onlyAt s fun _ => rfl).trans (settle_onlyAt d _)).kept fun ok => settle_ok ?_ ?_ <;>
    rw [dropFrom_place (f := fun gr => { gr with members := gr.members.filter fun m => m.dish ≠ d }) s fun _ => rfl]
  · intro h
    have alone := (ok.in_list (List.count_pos_iff.mpr hg)).alone h
    dsimp only
    split
    · rfl
    · exact alone ‹_›
  · exact (ok.in_list (List.count_pos_iff.mpr hg)).queued

theorem dropMember_kept (m n : Nat) (s : State) : SiteKept s (dropMember m n s).1 := by
  unfold dropMember
  split
  case h_1 g d _ _ =>
    split
    · exact .refl s
    case h_2 gr hg =>
      split
      · exact .refl s
      case isFalse hn =>
        split
        · exact .refl s
        · refine SiteKept.trans (dropEntry_kept ?_) (serveIfDue_kept _)
          rw [memberDishes_some hg]
          simpa using hn
  · exact .refl s

theorem aimGroup_kept (x : TargetArgs) (s : State) : SiteKept s (aimGroup x s).1 := by
  unfold aimGroup
  split
  · exact .refl s
  · split
    · exact .refl s
    · split
      · exact .refl s
      case h_2 gr hg =>
        split
        · exact .refl s
        · exact (setGroup_same hg (new := { gr.reopened with target := ⟨x.az, x.el⟩ }) (reopened_dishes gr)).kept

/-- A list of entries made from entries and a plan over them has the same dishes. -/
theorem zip_dishes (ms : List Member) (ps : List MemberPlan) (f : Member → MemberPlan → Member) (hf : ∀ m p, (f m p).dish = m.dish)
    (hl : ms.length = ps.length) : ((ms.zip ps).map fun mp => f mp.1 mp.2).map (fun m => m.dish) = ms.map fun m => m.dish := by
  induction ms generalizing ps with
  | nil => rfl
  | cons m ms ih =>
    cases ps with
    | nil => cases hl
    | cons p ps =>
      simp only [List.zip_cons_cons, List.map_cons, hf]
      rw [ih ps (Nat.succ.inj hl)]

theorem carryMember_same (move start : Nat) (s : State) (p : MemberPlan) : SamePlaces s (carryMember move start p s) := by
  unfold carryMember
  refine SamePlaces.trans ?_ (postMotion_same p.dish _ _)
  refine SamePlaces.trans ?_ (grantDrive_same p.dish .slew _ _)
  exact modDish_same p.dish _ s fun _ => ⟨rfl, rfl, rfl⟩

theorem carryMembers_groups (move start : Nat) (ps : List MemberPlan) (s : State) :
    (ps.foldl (fun t p => carryMember move start p t) s).groups = s.groups :=
  foldl_keeps (P := fun t : State => t.groups = s.groups) _ (fun t p e => by
    unfold carryMember; rw [postMotion_touches]; exact e) ps s rfl

theorem startMoving_same {g : GroupNo} {gr : Group} {ps : List MemberPlan} {s : State} (hg : s.groups[g] = some gr)
    (hl : gr.members.length = ps.length) (move : Nat) : SamePlaces s (startMoving g gr ps move s) := by
  have shed : SamePlaces s (shedForStart (groupLoad ps move) s) := shed_same s.feed.meltFloor ((groupLoad ps move : Int) - s.pFree).toNat s
  have groups : (shedForStart (groupLoad ps move) s).groups = s.groups := by unfold shedForStart; rw [shed_touches]
  unfold startMoving
  dsimp only
  refine SamePlaces.trans (shed.trans (samePlaces_foldl _ (carryMember_same move (s.siteTime + Config.groupLead)) ps _)) (setGroup_same
    (gr := gr) ?_ ?_)
  · rw [carryMembers_groups, groups]; exact hg
  · exact zip_dishes gr.members ps (startedMember s move) (fun _ _ => rfl) hl

theorem startStill_same {g : GroupNo} {gr : Group} {ps : List MemberPlan} {s : State} (hg : s.groups[g] = some gr)
    (hl : gr.members.length = ps.length) : SamePlaces s (startStill g gr ps s) := by
  have aimed (t : State) (p : MemberPlan) : SamePlaces t (t.modDish p.dish fun r => { r with targets := some p.target }) :=
    modDish_same p.dish _ t fun _ => ⟨rfl, rfl, rfl⟩
  have groups : (ps.foldl (fun t p => t.modDish p.dish fun r => { r with targets := some p.target }) s).groups = s.groups :=
    foldl_keeps (P := fun t : State => t.groups = s.groups) (fun t p => t.modDish p.dish fun r => { r with targets := some p.target })
      (fun t p e => e) ps s rfl
  unfold startStill
  dsimp only
  refine SamePlaces.trans ?_ (raise_same_places _ _ _)
  refine (samePlaces_foldl _ aimed ps s).trans (setGroup_same (gr := gr) ?_ ?_)
  · rw [groups]; exact hg
  · exact zip_dishes gr.members ps (arrivedMember s) (fun _ _ => rfl) hl

theorem startGroup_kept (n : Nat) (s : State) : SiteKept s (startGroup n s).1 := by
  unfold startGroup
  split
  · exact .refl s
  · split
    · exact .refl s
    case h_2 g _ gr hg =>
      have length : gr.members.length = (planGroup s gr).length := (List.length_map _).symm
      split_ifs
      · exact .refl s
      · exact .refl s
      · exact .refl s
      · exact .refl s
      · exact .refl s
      · unfold planStart
        dsimp only
        split
        · exact .refl s
        · split
          · exact (startStill_same hg length).kept
          · split
            · exact .refl s
            · exact (startMoving_same hg length _).kept

/-! ### HALT GROUP and DISBAND GROUP (R57, R58) -/

/-- The lists stay as they are through a halt of members. -/
theorem haltMember_listed (g : GroupNo) (m : Member) (s : State) (e : DishNo) : ((haltMember g m s).place e).listed = (s.place e).listed := by
  unfold haltMember
  split
  · rw [modMember_same g m.dish (fun e => { e with deadline := none }) (fun _ => rfl) _ e]
    by_cases he : e = m.dish
    · rw [he, goStopping_place]
    · rw [goStopping_onlyAt m.dish true s e he]
  · rfl

theorem haltMember_kept {g : GroupNo} {m : Member} {s : State} (hm : 0 < (s.place m.dish).listed g) : SiteKept s (haltMember g m s) := by
  unfold haltMember
  split
  · refine SiteKept.trans ((goStopping_onlyAt m.dish true s).kept fun ok => ?_)
      (modMember_same g m.dish (fun e => { e with deadline := none }) (fun _ => rfl) _).kept
    rw [goStopping_place]
    have pm := ok.in_list hm
    exact
      { once := ok.once
        member := fun h hh => ⟨.inr rfl, (ok.member h hh).2⟩
        named := nofun
        listed := fun _ => ok.listed pm.motion
        mark := fun h => absurd (pm.unmarked.symm.trans h) (by simp)
        queued := pm.queued
        locked := fun h => absurd (pm.open_.symm.trans h) (by simp)
        lockedEl := fun h => absurd ((el_of_motion pm.open_).symm.trans h) (by simp) }
  · exact .refl s

theorem haltMembers_kept {g : GroupNo} (ms : List Member) {s : State} (hm : ∀ m ∈ ms, 0 < (s.place m.dish).listed g) :
    SiteKept s (ms.foldl (fun t m => haltMember g m t) s) := by
  induction ms generalizing s with
  | nil => exact .refl s
  | cons m ms ih =>
    refine (haltMember_kept (hm m List.mem_cons_self)).trans (ih fun x hx => ?_)
    rw [haltMember_listed]
    exact hm x (List.mem_cons_of_mem _ hx)

/-- A member of a group that stands is listed. -/
theorem listed_of_mem {s : State} {g : GroupNo} {gr : Group} (hg : s.groups[g] = some gr) {m : Member} (hm : m ∈ gr.members) :
    0 < (s.place m.dish).listed g := by
  refine List.count_pos_iff.mpr ?_
  rw [memberDishes_some hg]
  exact List.mem_map.mpr ⟨m, hm, rfl⟩

theorem halt_kept {g : GroupNo} {gr : Group} {s : State} (hg : s.groups[g] = some gr) : SiteKept s (halt g gr s) := by
  unfold halt
  dsimp only
  refine SiteKept.trans ?_ (judgeGroup_same g _).kept
  refine SiteKept.trans (haltMembers_kept gr.members fun m hm => listed_of_mem hg hm) ?_
  exact (modGroup_same _ g (fun x => { x with state := .halting }) fun _ => rfl).kept

theorem haltGroup_kept (n : Nat) (s : State) : SiteKept s (haltGroup n s).1 := by
  unfold haltGroup
  split
  · exact .refl s
  · split
    · exact .refl s
    case h_2 gr hg =>
      dsimp only
      split
      · exact halt_kept hg
      · exact .refl s

/-- R58: settling reads no group, so that the record may as well be retired first. -/
theorem settle_setGroup (d : DishNo) (g : GroupNo) (o : Option Group) (s : State) :
    settle d (s.setGroup g o) = (settle d s).setGroup g o := by
  rw [settle_eq, settle_eq]; rfl

theorem settles_setGroup (g : GroupNo) (o : Option Group) (ms : List Member) (s : State) :
    ms.foldl (fun t m => settle m.dish t) (s.setGroup g o) = (ms.foldl (fun t m => settle m.dish t) s).setGroup g o := by
  induction ms generalizing s with
  | nil => rfl
  | cons m ms ih => rw [List.foldl_cons, List.foldl_cons, settle_setGroup, ih]

/-- Dishes in no list and not queued, each once: settled one after another, all are in order. -/
theorem settles_ok (ms : List Member) {s : State} (nodup : (ms.map fun m => m.dish).Nodup)
    (out : ∀ d ∈ ms.map (fun m => m.dish), (s.place d).Unlisted ∧ (s.place d).queued = 0)
    (ok : ∀ d, d ∉ ms.map (fun m => m.dish) → (s.place d).Ok) : SiteLaw (ms.foldl (fun t m => settle m.dish t) s) := by
  induction ms generalizing s with
  | nil => exact (siteLaw_iff _).mpr fun d => ok d List.not_mem_nil
  | cons m ms ih =>
    rw [List.map_cons, List.nodup_cons] at nodup
    rw [List.map_cons] at out ok
    obtain ⟨fresh, nodup⟩ := nodup
    have other (d : DishNo) (he : d ≠ m.dish) : (settle m.dish s).place d = s.place d := settle_onlyAt m.dish s d he
    refine ih nodup (fun d hd => ?_) fun d hd => ?_
    · rw [other d fun e => fresh (e ▸ hd)]
      exact out d (List.mem_cons_of_mem _ hd)
    · by_cases he : d = m.dish
      · obtain ⟨unlisted, queued⟩ := out m.dish List.mem_cons_self
        rw [he]; exact settle_ok unlisted queued
      · rw [other d he]
        exact ok d fun h => (List.mem_cons.mp h).elim he hd

theorem disband_law {g : GroupNo} {gr : Group} {s : State} (hg : s.groups[g] = some gr) (l : SiteLaw s) :
    SiteLaw ((gr.members.foldl (fun t m => settle m.dish t) s).setGroup g none) := by
  have ok := (siteLaw_iff s).mp l
  have dishes := memberDishes_some hg
  rw [← settles_setGroup]
  have place (d : DishNo) : (s.setGroup g none).place d = { s.place d with listed := fun h => if h = g then 0 else (s.place d).listed h } := by
    have count (h : GroupNo) : ((s.setGroup g none).memberDishes h).count d = if h = g then 0 else (s.memberDishes h).count d := by
      split
      case isTrue e => rw [e, memberDishes_setGroup_same]; rfl
      case isFalse e => rw [memberDishes_setGroup_other s g h _ e]
    unfold State.place
    simp only [count]
    rfl
  refine settles_ok gr.members (by rw [← dishes]; exact l.1.1 g) (fun d hm => ?_) fun d hm => ?_ <;> rw [place] <;> rw [← dishes] at hm
  · have pm := (ok d).in_list (List.count_pos_iff.mpr hm)
    refine ⟨fun h => ?_, pm.queued⟩
    dsimp only
    split
    · rfl
    · exact pm.alone h ‹_›
  · have same : (fun h => if h = g then 0 else (s.place d).listed h) = (s.place d).listed := by
      funext h
      split
      case isTrue e => rw [e]; exact (List.count_eq_zero.mpr hm).symm
      case isFalse => rfl
    rw [same]; exact ok d

theorem disbandGroup_kept (n : Nat) (s : State) : SiteKept s (disbandGroup n s).1 := by
  unfold disbandGroup
  split
  · exact .refl s
  · split
    · exact .refl s
    case h_2 gr hg =>
      split
      · exact .refl s
      · exact SiteKept.trans (disband_law hg) (serveIfDue_kept _)

end Machine
end Sys2Proof
end

section
/-! PROOFS. SiteLaw through the tag requests and RESET COORDINATION, and through every step (O59, concluded). -/

namespace Sys2Proof
namespace Machine

/-! ### Tags (R146, R153) -/

/-- R145: the slot a placement fills is empty. -/
theorem emptySlots_head {s : State} {k : TagNo} {rest : List TagNo} (h : emptySlots s = k :: rest) : s.tags[k] = none := by
  have mem : k ∈ emptySlots s := by rw [h]; exact List.mem_cons_self
  exact Option.isNone_iff_eq_none.mp (List.mem_filter.mp mem).2

theorem computeDemand_same (d : DishNo) (s : State) : SamePlaces s (computeDemand d s) := samePlaces_of rfl rfl rfl rfl

/-- A place in order stays so under a coverage that adds no motion and no EL coverage. -/
theorem Place.Ok.recover {p : Place} {c : Coverage} (ok : p.Ok) (motion : c.motion = true → p.cover.motion = true)
    (el : c.el = true → p.cover.el = true) : Place.Ok { p with cover := c } :=
  { ok with locked := fun h => ok.locked (motion h), lockedEl := fun h => ok.lockedEl (el h) }

/-- A place whose motion state neither new motion nor new EL coverage changes. -/
theorem Place.Ok.covered {p : Place} {c : Coverage} (ok : p.Ok) (hu : p.Unlisted)
    (hm : p.motion ≠ .free ∧ p.motion ≠ .member) (el : c.el = true → p.motion ≠ .stowQueued ∧ p.motion ≠ .stowing) :
    Place.Ok { p with cover := c } :=
  { ok with locked := fun _ => ⟨hm.1, hm.2, hu⟩, lockedEl := el }

theorem lockMember_onlyAt (g : GroupNo) (m : Member) (s : State) : OnlyAt m.dish s (lockMember g m s) := by
  refine removeMember_onlyAt s fun u => ?_
  split
  · exact goStopping_onlyAt m.dish false u
  · exact settle_onlyAt m.dish u

/-- R54: a removal for a lock leaves the dish in order, whatever covers it. -/
theorem lockMember_ok {g : GroupNo} {m : Member} {s : State} (hq : (s.place m.dish).queued = 0) (hl : ∀ h, h ≠ g → (s.place m.dish).listed h = 0) : ((lockMember g m s).place m.dish).Ok := by
  refine removeMember_ok hl fun u hu => ?_
  have unlisted : (u.place m.dish).Unlisted := by rw [hu]; exact Place.detached_unlisted _
  have queued : (u.place m.dish).queued = 0 := by rw [hu]; exact hq
  split
  · exact goStopping_ok unlisted queued
  · exact settle_ok unlisted queued

theorem takeLock_onlyAt (d : DishNo) (gained : Coverage) (s : State) : OnlyAt d s (takeLock d gained s) := by
  have lock : OnlyAt d s (match s.memberOf d with | some (g, m) => lockMember g m s | none => s) := by
    split
    case h_1 g m hm =>
      obtain ⟨gr, _, _, e⟩ := memberOf_some hm
      rw [← e]; exact lockMember_onlyAt g m s
    case h_2 => exact .refl d s
  unfold takeLock
  split
  · exact setMotion_onlyAt d _ s
  · exact lock
  · exact lock
  · split
    · exact (leaveQueue_onlyAt d s).trans (setMotion_onlyAt d _ _)
    · exact .refl d s
  · split
    · exact goStopping_onlyAt d false s
    · exact .refl d s
  · exact .refl d s

/-- TABLE 8.3: a place that was in order under the old coverage is in order under the new once the lock is taken. -/
theorem takeLock_ok {d : DishNo} {gained old : Coverage} {s : State} (ok : Place.Ok { s.place d with cover := old })
    (he : (s.place d).cover.el = true → old.el = true ∨ gained.el = true) : ((takeLock d gained s).place d).Ok := by
  have lock (hm : (s.place d).motion = .member ∨ (s.place d).motion = .stopping) :
      ((match s.memberOf d with | some (g, m) => lockMember g m s | none => s : State).place d).Ok := by
    have queued : (s.place d).queued = 0 := ok.not_queued (by rcases hm with e | e <;> dsimp only <;> rw [e] <;> nofun)
    split
    case h_1 g m h =>
      obtain ⟨gr, _, _, e⟩ := memberOf_some h
      have alone := (ok.in_list (g := g) (listed_of_memberOf h)).alone
      subst e
      exact lockMember_ok queued alone
    case h_2 h =>
      have unlisted := (memberOf_none_iff s d).mp h
      have group : (s.place d).group = none := by
        rw [Option.eq_none_iff_forall_ne_some]
        exact fun g hg => absurd (unlisted g) (Nat.ne_of_gt (ok.listed hm g hg))
      have member : (s.place d).motion ≠ .member := fun e => by
        have named := ok.named e
        dsimp only at named
        rw [group] at named; cases named
      have stopping := hm.resolve_left member
      exact ok.covered (c := (s.place d).cover) unlisted ⟨by rw [stopping]; nofun, member⟩ fun _ => by rw [stopping]; exact ⟨nofun, nofun⟩
  have unlisted (h1 : (s.place d).motion ≠ .member) (h2 : (s.place d).motion ≠ .stopping) : (s.place d).Unlisted := ok.unlisted h1 h2
  have kept (h : gained.el ≠ true) (hm : (s.place d).motion ≠ .free ∧ (s.place d).motion ≠ .member) (hs : (s.place d).motion ≠ .stopping) :
      (s.place d).Ok := ok.covered (c := (s.place d).cover) (unlisted hm.2 hs) hm fun h1 => ok.lockedEl ((he h1).resolve_right h)
  unfold takeLock
  split
  case h_1 hm =>
    have free : (s.place d).motion = .free := hm
    rw [setMotion_place]
    exact .of_unlisted (unlisted (by rw [free]; nofun) (by rw [free]; nofun)) nofun nofun
      (fun h => absurd ((ok.unmarked (by dsimp only; rw [free]; nofun) (by dsimp only; rw [free]; nofun) (by dsimp only; rw [free]; nofun)).symm.trans h) (by simp))
      (ok.not_queued (by dsimp only; rw [free]; nofun)) (fun _ => nofun) fun _ => ⟨nofun, nofun⟩
  case h_2 hm => exact lock (.inl hm)
  case h_3 hm => exact lock (.inr hm)
  case h_4 hm =>
    have waits : (s.place d).motion = .stowQueued := hm
    split
    · rw [setMotion_place, leaveQueue_place]
      exact .of_unlisted (unlisted (by rw [waits]; nofun) (by rw [waits]; nofun)) nofun nofun
        (fun h => absurd ((ok.unmarked (by dsimp only; rw [waits]; nofun) (by dsimp only; rw [waits]; nofun) (by dsimp only; rw [waits]; nofun)).symm.trans h) (by simp))
        rfl (fun _ => nofun) fun _ => ⟨nofun, nofun⟩
    case isFalse h => exact kept h ⟨by rw [waits]; nofun, by rw [waits]; nofun⟩ (by rw [waits]; nofun)
  case h_5 hm =>
    have stowing : (s.place d).motion = .stowing := hm
    split
    · exact goStopping_ok (unlisted (by rw [stowing]; nofun) (by rw [stowing]; nofun)) (ok.not_queued (by dsimp only; rw [stowing]; nofun))
    case isFalse h => exact kept h ⟨by rw [stowing]; nofun, by rw [stowing]; nofun⟩ (by rw [stowing]; nofun)
  case h_6 h1 h2 h3 h4 h5 =>
    exact ok.covered (c := (s.place d).cover) (unlisted h2 h3) ⟨h1, h2⟩ fun _ => ⟨h4, h5⟩

/-- A tag set or emptied changes the coverage of its own dish alone. -/
theorem setTag_onlyAt {k : TagNo} {o : Option Tag} {d : DishNo} {s : State}
    (h : ∀ e, e ≠ d → slotCoverage e o = slotCoverage e s.tags[k]) : OnlyAt d s (s.setTag k o) := fun e he => by
  unfold State.place
  rw [coverage_setTag_other (h e he)]
  rfl

theorem setTag_place (k : TagNo) (o : Option Tag) (d : DishNo) (s : State) :
    (s.setTag k o).place d = { s.place d with cover := (s.setTag k o).coverage d } := rfl

theorem setTagState_same (k : TagNo) (st : TagState) (s : State) : SamePlaces s (setTagState k st s) := fun d => by
  unfold State.place
  rw [(setTagState_keeps k st s).coverage d]
  rfl

/-- A coverage that has gained no motion coverage covers no more motion. -/
theorem motion_of_beyond {a b : Coverage} (h : (a.beyond b).motion ≠ true) : (a.motion = true → b.motion = true) ∧ (a.el = true → b.el = true) := by
  obtain ⟨a1, a2, a3⟩ := a
  obtain ⟨b1, b2, b3⟩ := b
  revert h
  unfold Coverage.beyond Coverage.motion
  dsimp only
  revert a1 a2 b1 b2
  decide

theorem el_of_beyond {a b : Coverage} (h : a.el = true) : b.el = true ∨ (a.beyond b).el = true := by
  unfold Coverage.beyond
  dsimp only
  rw [h]
  cases b.el
  · exact .inr rfl
  · exact .inl rfl

theorem gainCoverage_kept {k : TagNo} {t : Tag} {s : State} (hk : s.tags[k] = none) :
    SiteKept s (gainCoverage t.dish (((s.setTag k (some t)).coverage t.dish).beyond (s.coverage t.dish)) (s.setTag k (some t))) := by
  have set : OnlyAt t.dish s (s.setTag k (some t)) := setTag_onlyAt fun e he => by rw [hk]; exact slotCoverage_other he
  unfold gainCoverage
  dsimp only
  have locked : SiteKept s (if (((s.setTag k (some t)).coverage t.dish).beyond (s.coverage t.dish)).motion = true then
      serveIfDue (takeLock t.dish (((s.setTag k (some t)).coverage t.dish).beyond (s.coverage t.dish)) (s.setTag k (some t)))
      else s.setTag k (some t)) := by
    split
    · refine SiteKept.trans ((set.trans (takeLock_onlyAt t.dish _ _)).kept fun ok => ?_) (serveIfDue_kept _)
      exact takeLock_ok (old := s.coverage t.dish) ok el_of_beyond
    case isFalse h =>
      refine set.kept fun ok => ?_
      obtain ⟨motion, el⟩ := motion_of_beyond h
      exact ok.recover (c := (s.setTag k (some t)).coverage t.dish) motion el
  split
  · exact locked.trans (meltLockout_same _ _).kept
  · exact locked

theorem fillSlot_kept {k : TagNo} {t : Tag} {s : State} (hk : s.tags[k] = none) : SiteKept s (fillSlot k t s) := by
  unfold fillSlot
  dsimp only
  exact ((gainCoverage_kept hk).trans (setTagState_same k _ _).kept).trans (serveIfDue_kept _)

theorem placeTag_kept (a : PlaceArgs) (s : State) : SiteKept s (placeTag a s).1 := by
  unfold placeTag
  split
  · split
    · exact .refl s
    · split
      · exact .refl s
      · split
        · exact .refl s
        · split
          · exact .refl s
          case h_2 k rest hk => exact fillSlot_kept (emptySlots_head hk)
  · exact .refl s

theorem emptySlot_kept {k : TagNo} {t : Tag} {s : State} (hk : s.tags[k] = some t) : SiteKept s (emptySlot k t s) := by
  have set : OnlyAt t.dish s (s.setTag k none) := setTag_onlyAt fun e he => by rw [hk]; exact (slotCoverage_other he).symm
  have emptied : SiteKept s (s.setTag k none) := set.kept fun ok => by
    obtain ⟨az, el, _⟩ := coverage_emptied k t.dish s
    refine ok.recover (c := (s.setTag k none).coverage t.dish) (fun h => ?_) el
    rcases (Bool.or_eq_true _ _).mp h with h | h
    · exact (Bool.or_eq_true _ _).mpr (.inl (az h))
    · exact (Bool.or_eq_true _ _).mpr (.inr (el h))
  unfold emptySlot loseCoverage
  dsimp only
  refine SiteKept.trans ?_ (serveIfDue_kept _)
  have settled : SiteKept s (if (((s.coverage t.dish).beyond ((s.setTag k none).coverage t.dish)).motion &&
      (s.setTag k none).dishes[t.dish].motion == .locked) = true then settle t.dish (s.setTag k none) else s.setTag k none) := by
    split
    case isTrue h =>
      have locked : ((s.setTag k none).place t.dish).motion = .locked := eq_of_beq (Bool.and_eq_true_iff.mp h).2
      exact emptied.trans (settle_kept fun ok =>
        ⟨ok.unlisted (by rw [locked]; nofun) (by rw [locked]; nofun), ok.not_queued (by rw [locked]; nofun)⟩)
    · exact emptied
  split
  · exact settled.trans (computeDemand_same _ _).kept
  · exact settled

theorem releaseTag_kept (a : ReleaseArgs) (s : State) : SiteKept s (releaseTag a s).1 := by
  unfold releaseTag
  split
  · exact .refl s
  · split
    · exact .refl s
    · split
      · exact .refl s
      case h_2 t hk =>
        split
        · exact .refl s
        · exact emptySlot_kept hk

/-! ### RESET COORDINATION (R21, R63) -/

/-- A place whose dish no list holds any more. -/
def Place.unlist (p : Place) : Place := { p with listed := fun _ => 0 }

theorem resetDish_onlyAt (d : DishNo) (s : State) : OnlyAt d s (resetDish d s) := by
  unfold resetDish
  split
  · split
    · exact goStopping_onlyAt d false s
    · exact modDish_onlyAt d _ s
  · exact modDish_onlyAt d _ s
  · exact .refl d s

/-- R21: a dish that coordination no longer holds is in order once no list holds it. -/
theorem resetDish_ok {d : DishNo} {s : State} (ok : (s.place d).Ok) : ((resetDish d s).place d).unlist.Ok := by
  unfold resetDish
  split
  case h_1 hm =>
    have member : (s.place d).motion = .member := hm
    have queued := ok.not_queued (by rw [member]; nofun)
    split
    · rw [goStopping_place]
      exact .of_unlisted (fun _ => rfl) nofun (fun _ => rfl) (fun _ => .inl rfl) queued (fun _ => nofun) fun _ => ⟨nofun, nofun⟩
    · rw [modDish_place]
      exact .of_unlisted (fun _ => rfl) nofun nofun
        (fun h => absurd ((ok.unmarked (by rw [member]; nofun) (by rw [member]; nofun) (by rw [member]; nofun)).symm.trans h) (by simp))
        queued (fun h => absurd member (ok.locked h).2.1) fun _ => ⟨nofun, nofun⟩
  case h_2 hm =>
    have stopping : s.dishes[d].motion = .stopping := hm
    have queued := ok.not_queued (by change s.dishes[d].motion ≠ _; rw [stopping]; nofun)
    rw [modDish_place]
    dsimp only
    rw [stopping]
    exact .of_unlisted (fun _ => rfl) nofun (fun _ => rfl) (fun _ => .inl rfl) queued (fun _ => nofun) fun _ => ⟨nofun, nofun⟩
  case h_3 h1 h2 =>
    exact .of_unlisted (fun _ => rfl) h1 (fun h => absurd h h2) (fun h => (ok.mark h).1) ok.queued (fun h => (ok.locked h).1) ok.lockedEl

/-- What an operation on one dish makes of its place, it makes of each dish of a list once. -/
theorem foldl_onlyAt {f : DishNo → State → State} (only : ∀ d s, OnlyAt d s (f d s)) {P Q : Place → Prop}
    (step : ∀ d s, P (s.place d) → Q ((f d s).place d)) (ds : List DishNo) (nodup : ds.Nodup) (s : State) (d : DishNo) :
    (d ∈ ds → P (s.place d) → Q ((ds.foldl (fun t e => f e t) s).place d)) ∧
    (d ∉ ds → (ds.foldl (fun t e => f e t) s).place d = s.place d) := by
  induction ds generalizing s with
  | nil => exact ⟨nofun, fun _ => rfl⟩
  | cons e es ih =>
    rw [List.nodup_cons] at nodup
    obtain ⟨fresh, nodup⟩ := nodup
    obtain ⟨inside, outside⟩ := ih nodup (f e s)
    refine ⟨fun hd hp => ?_, fun hd => ?_⟩
    · by_cases he : d = e
      · subst he
        rw [List.foldl_cons, outside fresh]
        exact step d s hp
      · refine inside ((List.mem_cons.mp hd).resolve_left he) ?_
        rw [only e s d he]; exact hp
    · rw [List.mem_cons, not_or] at hd
      rw [List.foldl_cons, outside hd.2, only e s d hd.1]

theorem noGroups_place (b : Vector BusRecord 48) (s : State) (d : DishNo) :
    ({ s with groups := Vector.replicate 8 none, bus := b } : State).place d = (s.place d).unlist := by
  have none (g : GroupNo) : ({ s with groups := Vector.replicate 8 none, bus := b } : State).memberDishes g = [] :=
    memberDishes_none (Vector.getElem_replicate ..)
  unfold State.place Place.unlist
  simp only [none]
  rfl

theorem resetBlocks_kept (s : State) : SiteKept s (resetBlocks s) := fun l => by
  rw [siteLaw_iff] at l ⊢
  intro d
  unfold resetBlocks
  dsimp only
  rw [noGroups_place]
  exact (foldl_onlyAt (P := Place.Ok) (Q := fun p => p.unlist.Ok) resetDish_onlyAt (fun d s => resetDish_ok) allDishes (List.nodup_finRange 48)
    s d).1 (mem_allDishes d) (l d)

theorem resetCoordination_kept (s : State) : SiteKept s (resetCoordination s).1 := by
  have cleared (u : State) : SamePlaces u ((u.modScan Scan.dropSpot).modPort Port.cleared) := samePlaces_of rfl rfl rfl rfl
  unfold resetCoordination
  exact (resetBlocks_kept s).trans (cleared _).kept

end Machine
end Sys2Proof
end

section
/-! PROOFS. SiteLaw through every command and step (O59, concluded), and the laws at reset (O54). -/

namespace Sys2Proof
namespace Machine

/-! ### The feed, the wind and the melt requests -/

theorem modFeed_same (f : Feed → Feed) (s : State) : SamePlaces s (s.modFeed f) := samePlaces_of rfl rfl rfl rfl
theorem modScan_same (f : Scan → Scan) (s : State) : SamePlaces s (s.modScan f) := samePlaces_of rfl rfl rfl rfl
theorem modPort_same (f : Port → Port) (s : State) : SamePlaces s (s.modPort f) := samePlaces_of rfl rfl rfl rfl
theorem modWeather_same (f : MeltWeather → MeltWeather) (s : State) : SamePlaces s (s.modWeather f) := samePlaces_of rfl rfl rfl rfl
theorem modCircuit_same (d : DishNo) (f : Circuit → Circuit) (s : State) : SamePlaces s (s.modCircuit d f) := samePlaces_of rfl rfl rfl rfl
theorem setDetector_same (x : Detector) (s : State) : SamePlaces s (s.setDetector x) := samePlaces_of rfl rfl rfl rfl
theorem markServe_same (s : State) : SamePlaces s s.markServe := samePlaces_of rfl rfl rfl rfl

theorem setFeed_kept (capacity : Nat) (s : State) : SiteKept s (setFeed capacity s).1 := by
  have served (need : Nat) (u : State) : SiteKept u (serve (shed 0 need u)) := (shed_same 0 need u).kept.trans (serve_kept _)
  unfold setFeed
  dsimp only
  split
  · exact .refl s
  · dsimp only [answeredWith]
    generalize sumDrive _ + sumMelt _ - min capacity Config.maxFeed = need
    exact (modFeed_same _ s).kept.trans (served need _)

theorem setWindLimits_kept (a : WindArgs) (s : State) : SiteKept s (setWindLimits a s).1 := by
  unfold setWindLimits
  split
  · exact .refl s
  · split
    · exact .refl s
    · exact (judgeCell_modCell_kept _ _ s).trans (serveIfDue_kept _)

theorem forceStow_kept (cell : Nat) (s : State) : SiteKept s (forceStow cell s).1 := by
  unfold forceStow
  split
  · exact .refl s
  · exact (siteKept_foldl (fun t c => forceCell c t) (fun t c => judgeCell_modCell_kept c _ t) _ s).trans (serveIfDue_kept _)

theorem releaseStow_kept (cell : Nat) (s : State) : SiteKept s (releaseStow cell s).1 := by
  unfold releaseStow
  split
  · exact .refl s
  · dsimp only
    split
    · exact .refl s
    · split
      · exact .refl s
      · exact (judgeCell_modCell_kept _ _ s).trans (serveIfDue_kept _)

theorem setSiteCode_kept (code : Nat) (s : State) : SiteKept s (setSiteCode code s).1 :=
  SamePlaces.kept (samePlaces_of rfl rfl rfl rfl : SamePlaces s ({ s with siteCode := BitVec.ofNat 16 code }.setDetector
    (detectorFor (BitVec.ofNat 16 code))))

theorem setModeOf_same (mode : MeltMode) (duty : Nat) (d : DishNo) (s : State) : SamePlaces s (setModeOf mode duty d s) :=
  ((modCircuit_same d _ s).trans (computeDemand_same d _)).trans (lowerToDemand_same d _)

theorem setMeltMode_kept (a : ModeArgs) (s : State) : SiteKept s (setMeltMode a s).1 := by
  have counted (u : State) : SamePlaces u { u with freeCount := u.freeCount + 1 } := samePlaces_of rfl rfl rfl rfl
  unfold setMeltMode
  split
  case h_1 ds mode _ _ =>
    split
    · exact .refl s
    · dsimp only
      have modes := (samePlaces_foldl (fun t d => setModeOf mode (min 16 a.duty) d t) (fun t d => setModeOf_same mode _ d t) ds s).kept.trans
        (serveIfDue_kept _)
      split
      · exact modes
      · exact modes.trans (counted _).kept
  · exact .refl s

theorem judgeIced_same (d : DishNo) (s : State) : SamePlaces s (judgeIced d s) := by
  have judged : SamePlaces s (s.modCircuit d fun c => { c with iced := judgedIced s.settings.iceLimit s.circuits[d].arrears s.circuits[d].iced }) :=
    modCircuit_same d _ s
  unfold judgeIced
  dsimp only
  split
  · exact judged.trans (raise_same_places _ _ _)
  · exact judged

theorem replaceSettings_same (a : LimitsArgs) (s : State) : SamePlaces s (replaceSettings a s) := by
  have judged (u : State) : SamePlaces u (forDishes judgeIced u) :=
    samePlaces_foldl (fun t d => judgeIced d t) (fun t d => judgeIced_same d t) allDishes u
  unfold replaceSettings
  dsimp only
  refine SamePlaces.trans (SamePlaces.trans ?_ (modWeather_same _ _)) (judged _)
  exact samePlaces_of rfl rfl rfl rfl

theorem setMeltLimits_kept (a : LimitsArgs) (s : State) : SiteKept s (setMeltLimits a s).1 := by
  unfold setMeltLimits
  split
  · dsimp only [answeredWith]
    exact (replaceSettings_same a s).kept
  · exact .refl s

/-! ### Requests that change no place -/

theorem setClock_kept (clock : Nat) (s : State) : SiteKept s (setClock clock s).1 :=
  (samePlaces_of rfl rfl rfl rfl : SamePlaces s (setClock clock s).1).kept

theorem readConditions_kept (s : State) : SiteKept s (readConditions s).1 :=
  (modPort_same _ s).kept

theorem spotReading_kept (label : Byte) (chan : Nat) (s : State) : SiteKept s (spotReading label chan s).1 := by
  unfold spotReading
  split
  · exact .refl s
  · split
    · exact .refl s
    · exact (modScan_same _ s).kept

theorem lookUpDish_kept (n : Nat) (s : State) : SiteKept s (lookUpDish n s).1 := by unfold lookUpDish; split <;> exact .refl s
theorem lookUpCell_kept (n : Nat) (s : State) : SiteKept s (lookUpCell n s).1 := by unfold lookUpCell; split <;> exact .refl s
theorem lookUpMelt_kept (n : Nat) (s : State) : SiteKept s (lookUpMelt n s).1 := by unfold lookUpMelt; split <;> exact .refl s
theorem listTags_kept (n : Nat) (s : State) : SiteKept s (listTags n s).1 := by unfold listTags; split <;> exact .refl s

theorem lookUpGroup_kept (n : Nat) (s : State) : SiteKept s (lookUpGroup n s).1 := by
  unfold lookUpGroup
  split
  · exact .refl s
  · split <;> exact .refl s

theorem lookUpTag_kept (n : Nat) (s : State) : SiteKept s (lookUpTag n s).1 := by
  unfold lookUpTag
  split
  · exact .refl s
  · split <;> exact .refl s

/-! ### The port -/

theorem takeFrame_same (r : Request) (s : State) : SamePlaces s (takeFrame r s) := by
  rw [takeFrame_touches]; exact samePlaces_of rfl rfl rfl rfl

theorem begun_same (r : Request) (s : State) : SamePlaces s (s.begun r) := by
  rw [begun_touches]; exact samePlaces_of rfl rfl rfl rfl

/-- R185: a request command first changes the port alone. -/
theorem beginRequest_same (r : Request) (s : State) :
    (∃ u, beginRequest r s = .run u ∧ SamePlaces s u) ∨ (∃ u, beginRequest r s = .held u ∧ SamePlaces s u) := by
  by_cases h : Turn r s
  · exact .inl ⟨_, beginRequest_turn r s h, begun_same r s⟩
  · rw [beginRequest_elsewhere r s h]
    split
    · exact .inl ⟨_, rfl, (takeFrame_same r s).trans (begun_same r _)⟩
    · exact .inr ⟨_, rfl, takeFrame_same r s⟩

/-- R186: a request command keeps SiteLaw where its body does. -/
theorem request_kept {r : Request} {body : State → Reckoned} {s t : State} (hb : ∀ u, SiteKept u (body u).1)
    (h : runRequest r body s = .next t) : SiteKept s t := by
  unfold runRequest at h
  rcases beginRequest_same r s with ⟨u, e, same⟩ | ⟨u, e, same⟩ <;> rw [e] at h <;> injection h with h <;> rw [← h]
  · refine same.kept.trans (SiteKept.trans ?_ (modPort_same _ _).kept)
    split
    · exact hb u
    · exact .refl u
  · exact same.kept

theorem unknownRequest_kept {code label : Byte} {params : List Byte} {s t : State}
    (h : execUnknownRequest code label params s = .next t) : SiteKept s t := by
  unfold execUnknownRequest at h
  split at h
  · injection h with h; rw [← h]; exact .refl s
  · rcases beginRequest_same ⟨code, label, params⟩ s with ⟨u, e, same⟩ | ⟨u, e, same⟩ <;> rw [e] at h <;> injection h with h <;> rw [← h]
    · exact same.kept.trans (modPort_same _ u).kept
    · exact same.kept

theorem judgeFrame_same (bytes : List Byte) (s : State) : SamePlaces s (judgeFrame bytes s) := by
  unfold judgeFrame
  dsimp only
  split_ifs
  · exact .refl s
  · exact modPort_same _ s
  · exact modPort_same _ s
  · exact takeFrame_same _ s
  · exact modPort_same _ s

theorem exchangeBegin_same (s : State) : SamePlaces s (if s.port.exchange.isSome then s else s.modPort fun p => { p with exchange := some (snapshot s) }) := by
  split
  · exact .refl s
  · exact modPort_same _ s

theorem exchangeEnd_kept {bytes : List Byte} {s t : State} (h : execExchangeEnd bytes s = .next t) : SiteKept s t := by
  unfold execExchangeEnd at h
  split at h <;> injection h with h <;> rw [← h]
  · exact .refl s
  · exact ((modPort_same _ s).trans (judgeFrame_same bytes _)).kept

/-! ### Scan rounds -/

theorem shedCircuit_same (d : DishNo) (s : State) : SamePlaces s (shedCircuit d s) := by
  have shed : SamePlaces s ((s.modGrant d fun g => { g with duty := 0 }).modCircuit d fun c => { c with window := none }) :=
    samePlaces_of rfl rfl rfl rfl
  unfold shedCircuit
  dsimp only
  split
  · exact shed.trans (postHeat_same d _ _)
  · exact shed

theorem overloadShed_same (s : State) : SamePlaces s (overloadShed s) := by
  unfold overloadShed
  exact (((modFeed_same _ s).trans (samePlaces_foldl (fun t d => shedCircuit d t) (fun t d => shedCircuit_same d t) allDishes _)).trans
    (raise_same_places _ _ _)).trans (markServe_same _)

theorem monitorFeed_same (raw : Option Raw) (lost : Bool) (s : State) : SamePlaces s (monitorFeed raw lost s) := by
  unfold monitorFeed
  split
  · exact modFeed_same _ s
  · dsimp only
    split_ifs
    · exact (modFeed_same _ s).trans (modFeed_same _ _)
    · exact modFeed_same _ s
    · exact (modFeed_same _ s).trans (overloadShed_same _)
    · exact modFeed_same _ s

theorem handSample_kept (k : ChanNo) (s : State) : SiteKept s (handSample k s) := by
  unfold handSample
  dsimp only
  split
  · exact (judgeCell_modCell_kept _ _ s).trans (serveIfDue_kept _)
  · split
    · exact (modWeather_same _ s).kept
    · split
      · exact (modWeather_same _ s).kept
      · exact (monitorFeed_same _ _ s).kept.trans (serveIfDue_kept _)

theorem endRound_kept (raws : Vector Raw 16) (s : State) : SiteKept s (endRound raws s) := by
  unfold endRound
  dsimp only
  refine SiteKept.trans ?_ (siteKept_foldl (fun t k => handSample k t) (fun t k => handSample_kept k t) _ _)
  split
  · exact ((modScan_same _ s).trans (raise_same_places _ _ _)).kept
  · exact (modScan_same _ s).kept

theorem conversionEnd_kept {raw : Raw} {s t : State} (h : execConversionEnd raw s = .next t) : SiteKept s t := by
  unfold execConversionEnd at h
  split at h <;> injection h with h <;> rw [← h]
  · split
    · exact (modScan_same _ s).kept
    · exact .refl s
  · exact .refl s

theorem scanRoundEnd_kept {raw : Raw} {s t : State} (h : execScanRoundEnd raw s = .next t) : SiteKept s t := by
  unfold execScanRoundEnd at h
  split at h <;> injection h with h <;> rw [← h]
  · split
    · exact endRound_kept _ s
    · exact .refl s
  · exact .refl s

theorem spotConversionEnd_kept {raw : Raw} {s t : State} (h : execSpotConversionEnd raw s = .next t) : SiteKept s t := by
  unfold execSpotConversionEnd at h
  split at h <;> injection h with h <;> rw [← h]
  · exact ((modScan_same _ s).trans (modPort_same _ _)).kept
  · exact (modScan_same _ s).kept
  · exact .refl s

/-! ### The bus, expiries and the heater -/

/-- An event that does nothing where it is overtaken. -/
theorem siteKept_ite {p : Prop} [Decidable p] {s t : State} (h : p → SiteKept s t) : SiteKept s (if p then t else s) := by
  split
  · exact h ‹_›
  · exact .refl s

theorem beginPoll_same (g : SegNo) (s : State) : SamePlaces s (beginPoll g s) := by
  have one (t : State) (d : DishNo) : SamePlaces t (countDown d t) := by
    unfold countDown
    split
    · exact modBus_same_places d _ t
    · exact .refl t
  exact SamePlaces.trans (t := s.modEngine g fun _ => ⟨some s.siteTime, 0⟩) (samePlaces_of rfl rfl rfl rfl)
    (samePlaces_foldl (fun t d => countDown d t) one _ _)

theorem beginTransaction_same (d : DishNo) (x : Sent) (s : State) : SamePlaces s (beginTransaction d x s) := samePlaces_of rfl rfl rfl rfl

theorem transactionEnd_kept {d : DishNo} {chars : List Char9} {cutShort : Bool} {s t : State}
    (h : execTransactionEnd d chars cutShort s = .next t) : SiteKept s t := by
  unfold execTransactionEnd at h
  split at h <;> injection h with h <;> rw [← h]
  · exact .refl s
  · refine (modBus_same_places d (fun b => { b with inFlight := none }) s).kept.trans ?_
    split
    · exact .refl _
    · exact endTransaction_kept d _ _ _

theorem endQuiet_due {s : State} {d : DishNo} (h : quietEnded s d = true) : s.dishes[d].motion = .cut := by
  unfold quietEnded at h
  simp only [Bool.and_eq_true, beq_iff_eq] at h
  exact h.1.1

theorem grantMelt_same (s : State) : SamePlaces s (grantMelt s) := by
  have granted : SamePlaces s ({ s with grants := boundaryGrants s }.modFeed fun f => { f with pass2 := dishAfter f.pass2 1 }) :=
    samePlaces_of rfl rfl rfl rfl
  unfold grantMelt
  dsimp only
  split
  · exact granted.trans (markServe_same _)
  · exact granted

theorem scheduleWindow_same (d : DishNo) (s : State) : SamePlaces s (scheduleWindow d s) := by
  have fresh : SamePlaces s (s.modCircuit d fun c => { c with ownOpened := false }) := modCircuit_same d _ s
  unfold scheduleWindow
  dsimp only
  split
  · exact fresh
  · split
    · exact fresh.trans (closeWindow_same d _)
    · exact fresh.trans (modCircuit_same d _ _)

theorem heaterBoundary_kept (s : State) : SiteKept s (heaterBoundary s) := by
  have arrears : SamePlaces s (if s.siteTime = 0 then s else forDishes closeArrears s) := by
    split
    · exact .refl s
    · exact samePlaces_foldl (fun t d => closeArrears d t) (fun t d => modCircuit_same d _ t) allDishes s
  have judged (u : State) : SamePlaces u (forDishes judgeIced u) :=
    samePlaces_foldl (fun t d => judgeIced d t) (fun t d => judgeIced_same d t) allDishes u
  have demands (u : State) : SamePlaces u (forDishes computeDemand u) :=
    samePlaces_foldl (fun t d => computeDemand d t) (fun t d => computeDemand_same d t) allDishes u
  have windows (u : State) : SamePlaces u (forDishes scheduleWindow u) :=
    samePlaces_foldl (fun t d => scheduleWindow d t) (fun t d => scheduleWindow_same d t) allDishes u
  unfold heaterBoundary
  exact (((arrears.trans (judged _)).trans (demands _)).trans (((grantMelt_same _).trans (modWeather_same _ _)).trans (windows _))).kept.trans
    (serveIfDue_kept _)

theorem takeWeatherByte_kept (b : Byte) (stopBit : Bool) (s : State) : SiteKept s (takeWeatherByte b stopBit s) := by
  have matched (u : State) : SiteKept u (serveIfDue (fullMatch u)) :=
    ((siteKept_foldl (fun t c => externCell c t) (fun t c => judgeCell_modCell_kept c _ t) allCells u).trans
      (raise_same_places _ _ _).kept).trans (serveIfDue_kept _)
  unfold takeWeatherByte
  split
  · exact (setDetector_same _ s).kept
  · dsimp only
    split
    · exact (setDetector_same _ s).kept.trans (matched _)
    · exact (setDetector_same _ s).kept

/-! ### Every command -/

theorem exec_kept {i : Instr} {s t : State} (hi : i ≠ .powerOnReset) (h : exec i s = .next t) : SiteKept s t := by
  cases i with
  | powerOnReset => exact absurd rfl hi
  | exchangeBegin => injection h with h; rw [← h]; exact (exchangeBegin_same s).kept
  | exchangeEnd bytes => exact exchangeEnd_kept h
  | describeDish label params => exact request_kept (describe_kept _) h
  | resumeDish label params => exact request_kept (resume_kept _) h
  | restrainDish label params => exact request_kept (restrain_kept _) h
  | lookUpDish label params => exact request_kept (lookUpDish_kept _) h
  | writeOffDish label params => exact request_kept (writeOff_kept _) h
  | openGroup label params => exact request_kept (openGroup_kept _) h
  | addMember label params => exact request_kept (addMember_kept _) h
  | dropMember label params => exact request_kept (dropMember_kept _ _) h
  | aimGroup label params => exact request_kept (aimGroup_kept _) h
  | startGroup label params => exact request_kept (startGroup_kept _) h
  | haltGroup label params => exact request_kept (haltGroup_kept _) h
  | disbandGroup label params => exact request_kept (disbandGroup_kept _) h
  | lookUpGroup label params => exact request_kept (lookUpGroup_kept _) h
  | setFeed label params => exact request_kept (setFeed_kept _) h
  | lookUpBudget label params => exact request_kept (fun u => .refl u) h
  | spotReading label params => exact request_kept (spotReading_kept label _) h
  | lookUpChannels label params => exact request_kept (fun u => .refl u) h
  | setWindLimits label params => exact request_kept (setWindLimits_kept _) h
  | forceStow label params => exact request_kept (forceStow_kept _) h
  | releaseStow label params => exact request_kept (releaseStow_kept _) h
  | setSiteCode label params => exact request_kept (setSiteCode_kept _) h
  | lookUpCell label params => exact request_kept (lookUpCell_kept _) h
  | setMeltMode label params => exact request_kept (setMeltMode_kept _) h
  | setMeltLimits label params => exact request_kept (setMeltLimits_kept _) h
  | lookUpMelt label params => exact request_kept (lookUpMelt_kept _) h
  | placeTag label params => exact request_kept (placeTag_kept _) h
  | releaseTag label params => exact request_kept (releaseTag_kept _) h
  | lookUpTag label params => exact request_kept (lookUpTag_kept _) h
  | listTags label params => exact request_kept (listTags_kept _) h
  | setClock label params => exact request_kept (setClock_kept _) h
  | readConditions label params => exact request_kept readConditions_kept h
  | resetCoordination label params => exact request_kept resetCoordination_kept h
  | unknownRequest code label params => exact unknownRequest_kept h
  | scanRoundStart => injection h with h; rw [← h]; exact siteKept_ite fun _ => (modScan_same _ s).kept
  | conversionEnd raw => exact conversionEnd_kept h
  | scanRoundEnd raw => exact scanRoundEnd_kept h
  | spotConversionEnd raw => exact spotConversionEnd_kept h
  | pollRoundStart seg => injection h with h; rw [← h]; exact siteKept_ite fun _ => (beginPoll_same seg s).kept
  | visit d => injection h with h; rw [← h]; exact siteKept_ite fun _ => (beginTransaction_same d _ s).kept
  | presenceProbe d => injection h with h; rw [← h]; exact siteKept_ite fun _ => (beginTransaction_same d _ s).kept
  | transactionEnd d chars cutShort => exact transactionEnd_kept h
  | memberDeadlineExpiry d =>
    injection h with h; rw [← h]; exact siteKept_ite fun _ => (cutDish_kept d _ _ s).trans (serveIfDue_kept _)
  | stowDeadlineExpiry d =>
    injection h with h; rw [← h]; exact siteKept_ite fun _ => (cutDish_kept d _ _ s).trans (serveIfDue_kept _)
  | quietTimeEnd d =>
    injection h with h; rw [← h]; exact siteKept_ite fun due => (endQuiet_kept (endQuiet_due due)).trans (serveIfDue_kept _)
  | holdDownExpiry c =>
    injection h with h; rw [← h]; exact siteKept_ite fun _ => (judgeCell_modCell_kept c _ s).trans (serveIfDue_kept _)
  | lingerExpiry => injection h with h; rw [← h]; exact siteKept_ite fun _ => (modWeather_same _ s).kept
  | heaterBoundary => injection h with h; rw [← h]; exact siteKept_ite fun _ => heaterBoundary_kept s
  | windowOpen d =>
    injection h with h
    rw [← h]
    split
    · exact .refl s
    · split
      · exact (closeWindow_same d s).kept
      · exact (openWindow_same d s).kept
  | windowClose d => injection h with h; rw [← h]; exact siteKept_ite fun _ => (closeWindow_same d s).kept
  | weatherByte b stopBit => injection h with h; rw [← h]; exact takeWeatherByte_kept b stopBit s

/-! ### Time and reset -/

theorem tick_places (s : State) : SamePlaces s (tick s) := fun d => by
  unfold State.place
  rw [tick_dishes]
  rfl

theorem reset_siteLaw : SiteLaw State.reset := by
  refine (siteLaw_iff _).mpr fun d => ?_
  have unlisted : (State.reset.place d).Unlisted := (unlisted_iff _ d).mpr fun g => by
    rw [memberDishes_none (reset_groups g)]; exact List.not_mem_nil
  have uncovered : State.reset.coverage d = ⟨false, false, false⟩ := by
    unfold State.coverage
    rw [coverageIn_eq]
    simp only [reset_tags]
    rfl
  have place : State.reset.place d = { State.reset.place d with motion := .restrained, mark := false, queued := 0, cover := ⟨false, false, false⟩ } := by
    unfold State.place
    rw [uncovered, reset_dishes]
    rfl
  rw [place]
  exact .of_unlisted unlisted nofun nofun nofun rfl nofun nofun

/-- Settles O59: an operation on one dish leaves that dish's place in order and no other place changed, and most change none. -/
theorem siteLawIsKept : Obligations.SiteLawIsKept := by
  unfold Obligations.SiteLawIsKept
  intro s t l h
  exact step_keeps (fun _ _ _ l => l) reset_siteLaw (fun s _ => (samePlaces_of rfl rfl rfl rfl : SamePlaces s (startRun s)).kept)
    (fun i s t hi hx => exec_kept hi hx) (fun s _ => (tick_places s).kept) l h

theorem reset_powerLaw : PowerLaw State.reset := by
  unfold PowerLaw; decide +kernel

theorem reset_portLaw : PortLaw State.reset := by
  unfold PortLaw; decide

/-- Settles O54. -/
theorem lawsHoldAtReset : Obligations.LawsHoldAtReset := by
  unfold Obligations.LawsHoldAtReset
  exact ⟨reset_portLaw, reset_powerLaw, reset_melt, reset_orders, reset_cellLaw, reset_siteLaw, reset_tidyLaw⟩

end Machine
end Sys2Proof
end

section
/-! PROOFS. The command port: the run a request's command comes to (O8, O9), and the two ends of an exchange (O6, O7). -/

namespace Sys2Proof
namespace Machine

/-! ### The command of a request (R185, R186) -/

theorem byte_of_toNat {code : Byte} {n : Nat} (h : code.toNat = n) : code = BitVec.ofNat 8 n := by
  rw [← h, BitVec.ofNat_toNat, BitVec.setWidth_eq]

theorem frameLengths_unknown {code : Byte} (h : knownCode code = true) : frameLengths code.toNat ≠ [] := by
  intro e
  unfold knownCode at h
  rw [e] at h; cases h

/-- TABLE 11.4: the command of a request whose code it has runs its request; a code absent from it has the command UNKNOWN_REQUEST. -/
theorem commandOf_cases (r : Request) :
    (knownCode r.code = true ∧ ∃ body : State → Reckoned, ∀ s, exec (commandOf r) s = runRequest r body s) ∨
    (knownCode r.code = false ∧ commandOf r = .unknownRequest r.code r.label r.params) := by
  obtain ⟨code, label, params⟩ := r
  unfold commandOf
  dsimp only
  split
  case h_33 =>
    refine .inr ⟨?_, rfl⟩
    have none : frameLengths code.toNat = [] := by
      unfold frameLengths
      split
      case h_33 => rfl
      all_goals (rename_i e; simp_all only [forall_const])
    unfold knownCode
    rw [none]; rfl
  all_goals
    rename_i e
    rw [byte_of_toNat e]
    exact .inl ⟨rfl, _, fun _ => rfl⟩

/-- What the run of a request comes to, whether its code is known or not. -/
theorem command_runs (r : Request) : ∃ body : State → Reckoned, ∀ s, exec (commandOf r) s =
    match beginRequest r s with
    | .held u => .next u
    | .run u => .next (endRequest r (body u)) := by
  rcases commandOf_cases r with ⟨-, body, e⟩ | ⟨unknown, e⟩
  · refine ⟨fun u => if (frameLengths r.code.toNat).contains (r.params.length + 4) then body u else answered u .badValue, fun s => ?_⟩
    rw [e, runRequest] <;> rfl
  · refine ⟨fun u => answered u .unknownRequest, fun s => ?_⟩
    rw [e]
    change execUnknownRequest r.code r.label r.params s = _
    unfold execUnknownRequest
    rw [unknown]
    rfl

/-- TABLE 11.4, code by code. -/
theorem frameLengths_table : ∀ code : Byte, frameLengths code.toNat =
    if code = 0x10 then [6, 30, 33]
    else if code = 0x21 then [6, 12]
    else if code ∈ ([0x31, 0x39, 0x71, 0x72] : List Byte) then [4]
    else if code ∈ ([0x11, 0x12, 0x13, 0x14, 0x24, 0x25, 0x26, 0x27, 0x38, 0x41, 0x42, 0x43, 0x52, 0x62, 0x63] : List Byte) then [5]
    else if code ∈ ([0x22, 0x30, 0x44] : List Byte) then [6]
    else if code ∈ ([0x50, 0x61] : List Byte) then [7]
    else if code ∈ ([0x60, 0x70] : List Byte) then [8]
    else if code ∈ ([0x20, 0x23] : List Byte) then [11]
    else if code = 0x40 then [16]
    else if code = 0x51 then [17]
    else [] := by
  decide +kernel

theorem knownCode_iff (code : Byte) : knownCode code = true ↔ frameLengths code.toNat ≠ [] := by
  unfold knownCode
  cases frameLengths code.toNat <;> simp

/-- Settles O8: the command of a request on its turn begins the run; an unknown code and a length its code does not allow end it at once. -/
theorem unknownOrIllSizedRequestsChangeNothing : Obligations.UnknownOrIllSizedRequestsChangeNothing := by
  unfold Obligations.UnknownOrIllSizedRequestsChangeNothing
  refine ⟨fun r s turn => ⟨fun unknown => ?_, fun known illSized => ?_, fun known => ?_⟩, fun code => ⟨knownCode_iff code, frameLengths_table code⟩⟩
  · rcases commandOf_cases r with ⟨known, -⟩ | ⟨-, e⟩
    · rw [unknown] at known; cases known
    · rw [e]
      change execUnknownRequest r.code r.label r.params s = _
      unfold execUnknownRequest
      rw [unknown, if_neg (by simp), beginRequest_turn r s turn]
      rfl
  · rcases commandOf_cases r with ⟨-, body, e⟩ | ⟨unknown, -⟩
    · rw [e]
      exact runRequest_illSized r body s turn (by simpa using illSized)
    · rw [unknown] at known; cases known
  · change execUnknownRequest r.code r.label r.params s = _
    unfold execUnknownRequest
    rw [if_pos known]

/-! ### A frame that arrives first (R183, R185) -/

/-- What taking a frame does, by its checks. -/
theorem takeFrame_cases (r : Request) (s : State) :
    takeFrame r s =
      if 60 < r.params.length then { s with port := { s.port with lastFrame := .badFrame } }
      else if s.port.queue.length ≥ 4 ∨ s.outstanding + s.waiting ≥ 8 then { s with port := { s.port with lastFrame := .refusedFull } }
      else { s with port := { s.port with lastFrame := .taken, queue := s.port.queue ++ [r] } } := by
  have long : (64 < r.params.length + 4) = (60 < r.params.length) := propext (by omega)
  have full : (decide (Config.requestSlots ≤ s.port.queue.length) || decide (Config.answerSlots ≤ s.outstanding + s.waiting)) = true ↔
      s.port.queue.length ≥ 4 ∨ s.outstanding + s.waiting ≥ 8 := by
    rw [Bool.or_eq_true, decide_eq_true_iff, decide_eq_true_iff]; rfl
  unfold takeFrame
  simp only [long, full]
  rfl

/-- The run state and the head of the queue after a frame has been taken. -/
theorem turn_takeFrame_iff {r : Request} {s : State} (h : ¬ Turn r s) :
    Turn r (takeFrame r s) ↔ s.port.running = none ∧ s.port.queue = [] ∧ r.params.length ≤ 60 ∧ s.outstanding + s.waiting < 8 := by
  unfold Turn at h
  rw [not_or] at h
  obtain ⟨notRunning, notHead⟩ := h
  rw [takeFrame_cases]
  unfold Turn
  split_ifs with long full
  · exact iff_of_false (not_or.mpr ⟨notRunning, notHead⟩) fun h => by omega
  · refine iff_of_false (not_or.mpr ⟨notRunning, notHead⟩) fun ⟨_, hq, _, hw⟩ => ?_
    rcases full with h | h
    · rw [hq] at h; exact absurd h (by decide)
    · omega
  · rw [not_or] at full
    dsimp only
    constructor
    · rintro (h | ⟨idle, head⟩)
      · exact absurd h notRunning
      · refine ⟨idle, ?_, Nat.not_lt.mp long, Nat.not_le.mp full.2⟩
        cases hq : s.port.queue with
        | nil => rfl
        | cons x xs =>
          rw [hq] at head notHead
          exact absurd ⟨idle, head⟩ notHead
    · rintro ⟨idle, empty, -, -⟩
      rw [empty]
      exact .inr ⟨idle, rfl⟩

/-- Settles O9: a request whose turn it is not is taken as a frame; its turn has then come or not. -/
theorem requestElsewhereIsTakenFirst : Obligations.RequestElsewhereIsTakenFirst := by
  unfold Obligations.RequestElsewhereIsTakenFirst
  intro r s elsewhere
  obtain ⟨body, run⟩ := command_runs r
  refine ⟨fun turn => ?_, fun still => ?_, turn_takeFrame_iff elsewhere⟩
  · rw [run, run, beginRequest_elsewhere r s elsewhere, if_pos ((turnOf_iff r _).mpr turn), beginRequest_turn r _ turn]
  · rw [run, beginRequest_elsewhere r s elsewhere, if_neg (mt (turnOf_iff r _).mp still)]

/-! ### Exchanges (R180 to R183) -/

/-- TABLE 11.2: an answer is padded to whole units of 8 bytes. -/
theorem answerBytes_length (a : Answer) : (answerBytes a).length = 8 * ceilDiv (6 + a.results.length) 8 := by
  unfold answerBytes answerUnits ceilDiv put16 put8
  dsimp only
  simp only [List.length_append, List.length_cons, List.length_nil, List.length_replicate]
  omega

/-- R180: where an answer waits, the exchange carries its length and its bytes. -/
theorem snapshot_of_cons {s : State} {a : Answer} {rest : List Answer} (h : s.port.answers = a :: rest) :
    (snapshot s).answer = some (answerBytes a) ∧ (snapshot s).units = ceilDiv (6 + a.results.length) 8 := by
  have bytes : (snapshot s).answer = some (answerBytes a) := by unfold snapshot; rw [h]; rfl
  refine ⟨bytes, ?_⟩
  unfold Exchange.units
  rw [bytes, Option.getD_some, answerBytes_length]
  exact Nat.mul_div_cancel_left _ (by decide)

/-- R180: without an answer nothing but the status byte is shifted out. -/
theorem snapshot_of_nil {s : State} (h : s.port.answers = []) (k : Nat) (hk : 1 ≤ k) : (snapshot s).byteOut k = 0 := by
  have none : (snapshot s).answer = none := by unfold snapshot; rw [h]; rfl
  unfold Exchange.byteOut
  rw [none]
  match k, hk with
  | 1, _ => rfl
  | k + 2, _ => rfl

/-- R181: the status byte. -/
theorem statusByte_eq (s : State) : statusByte s = BitVec.ofNat 8 (s.port.lastFrame.number * 64 +
    min (4 - s.port.queue.length) (8 - s.outstanding - s.waiting) * 8 +
    (if s.port.answers = [] then 0 else 4) + (if s.port.conditionPending then 2 else 0)) := by
  have waits : (!s.port.answers.isEmpty).toNat * 4 = if s.port.answers = [] then 0 else 4 := by cases s.port.answers <;> rfl
  have pends : s.port.conditionPending.toNat * 2 = if s.port.conditionPending then 2 else 0 := by cases s.port.conditionPending <;> rfl
  unfold statusByte
  rw [waits, pends]
  rfl

theorem head_isSome_iff {α : Type} (l : List α) : l.head?.isSome = true ↔ l ≠ [] := by cases l <;> simp

/-- Settles O6. -/
theorem exchangeBeginTakesSnapshot : Obligations.ExchangeBeginTakesSnapshot := by
  unfold Obligations.ExchangeBeginTakesSnapshot
  refine ⟨fun s => ⟨fun busy => ?_, fun idle => ⟨snapshot s, ?_, statusByte_eq s, head_isSome_iff _, ?_, fun empty k hk =>
    snapshot_of_nil empty k hk, fun a rest h => ?_⟩⟩, fun a => rfl, by decide, by decide⟩
  · change Host.Outcome.next (if _ then _ else _) = _
    rw [if_pos busy]
  · change Host.Outcome.next (if _ then _ else _) = _
    rw [idle]
    rfl
  · unfold snapshot
    rw [Option.isSome_map]
    exact head_isSome_iff _
  · obtain ⟨bytes, units⟩ := snapshot_of_cons h
    refine ⟨units, congrArg (BitVec.ofNat 8) units, fun k => ?_, answerBytes_length a⟩
    unfold Exchange.byteOut
    rw [bytes, Nat.add_comm]
    rfl

/-- R183: the request that a frame of the length it names carries. -/
theorem requestIn_take {bytes : List Byte} {n : Nat} (h : ¬ bytes.length < n) :
    requestIn (bytes.take n) = ⟨(bytes.take n).getD 1 0, (bytes.take n).getD 2 0, ((bytes.take n).drop 3).take (n - 4)⟩ := by
  have length : (bytes.take n).length = n := List.length_take_of_le (Nat.not_lt.mp h)
  unfold requestIn
  rw [length]

/-- R183: what a judged frame leaves, by its checks in order. -/
theorem judgeFrame_cases (bytes : List Byte) (s : State) :
    judgeFrame bytes s = (
      let n := (bytes.headD 0).toNat
      let frame := bytes.take n
      if n = 0 then s
      else if n < 4 ∨ 64 < n then { s with port := { s.port with lastFrame := .badFrame } }
      else if bytes.length < n then { s with port := { s.port with lastFrame := .truncated } }
      else if crc frame.dropLast ≠ frame.getLastD 0 then { s with port := { s.port with lastFrame := .badFrame } }
      else if s.port.queue.length ≥ 4 ∨ s.outstanding + s.waiting ≥ 8 then { s with port := { s.port with lastFrame := .refusedFull } }
      else
        { s with port := { s.port with
            lastFrame := .taken
            queue := s.port.queue ++ [⟨frame.getD 1 0, frame.getD 2 0, (frame.drop 3).take (n - 4)⟩] } }) := by
  unfold judgeFrame
  dsimp only
  generalize (bytes.headD 0).toNat = n
  by_cases zero : n = 0
  · rw [if_pos zero, if_pos zero]
  rw [if_neg zero, if_neg zero]
  by_cases sized : n < 4 ∨ 64 < n
  · rw [if_pos sized, if_pos (by simpa using sized)]; rfl
  rw [if_neg sized, if_neg (by simpa using sized)]
  by_cases short : bytes.length < n
  · rw [if_pos short, if_pos short]; rfl
  rw [if_neg short, if_neg short]
  by_cases check : crc (bytes.take n).dropLast ≠ (bytes.take n).getLastD 0
  · rw [if_pos check, if_neg (by unfold checkAgrees; simpa using check)]; rfl
  rw [if_neg check, if_pos (by unfold checkAgrees; simpa using check), takeFrame_cases, requestIn_take short]
  refine if_neg ?_
  dsimp only
  rw [List.length_take]
  omega

/-- Settles O7: the delivered answer leaves, then the frame is judged. -/
theorem exchangeEndDeliversThenJudgesTheFrame : Obligations.ExchangeEndDeliversThenJudgesTheFrame := by
  unfold Obligations.ExchangeEndDeliversThenJudgesTheFrame
  intro bytes s
  refine ⟨fun none => ?_, fun x hx => ?_⟩
  · change execExchangeEnd bytes s = _
    unfold execExchangeEnd
    rw [none]
  · have delivered : x.delivers bytes.length = true ↔ x.live = true ∧ x.answer.isSome = true ∧ 2 + 8 * x.units ≤ bytes.length := by
      unfold Exchange.delivers
      rw [Bool.and_eq_true, Bool.and_eq_true, decide_eq_true_iff, and_assoc]
    change execExchangeEnd bytes s = _
    unfold execExchangeEnd
    rw [hx]
    dsimp only
    rw [judgeFrame_cases]
    unfold Port.deliver
    simp only [delivered]
    rfl

end Machine
end Sys2Proof
end

section
/-! PROOFS. Bytes put and read back: parameters (O52), frames and characters (O53), replies (O31). -/

namespace Sys2Proof
namespace Machine

/-! ### Numbers by width (R194) -/

/-- What the bytes at a place of a sequence hold. -/
theorem byte_toNat {n : Nat} (h : n < 256) : (BitVec.ofNat 8 n).toNat = n := by
  rw [BitVec.toNat_ofNat]; exact Nat.mod_eq_of_lt h

theorem word_toNat {n : Nat} (h : n < 65536) : (BitVec.ofNat 8 (n / 256)).toNat * 256 + (BitVec.ofNat 8 n).toNat = n := by
  simp only [BitVec.toNat_ofNat]; omega

theorem triple_toNat {n : Nat} (h : n < 16777216) :
    ((BitVec.ofNat 8 (n / 65536)).toNat * 256 + (BitVec.ofNat 8 (n / 256)).toNat) * 256 + (BitVec.ofNat 8 n).toNat = n := by
  simp only [BitVec.toNat_ofNat]; omega

/-- R194: an angle within 24 bits reads back from its three bytes. -/
theorem angle_toInt {i : Int} (h : In24 i) :
    (BitVec.ofNat 24 (((BitVec.ofNat 8 ((BitVec.ofInt 24 i).toNat / 65536)).toNat * 256 +
      (BitVec.ofNat 8 ((BitVec.ofInt 24 i).toNat / 256)).toNat) * 256 + (BitVec.ofNat 8 (BitVec.ofInt 24 i).toNat).toNat)).toInt = i := by
  rw [triple_toNat (BitVec.ofInt 24 i).isLt, BitVec.ofNat_toNat, BitVec.setWidth_eq, BitVec.toInt_ofInt]
  obtain ⟨low, high⟩ := h
  exact Int.bmod_eq_of_le (by omega) (by omega)

/-! ### The parameters of the requests (TABLE 11.4) -/

theorem readTarget_params (a : TargetArgs) (hg : a.group < 256) (haz : In24 a.az) (hel : In24 a.el) : readTarget (targetParams a) = a := by
  obtain ⟨group, az, el⟩ := a
  simp only [readTarget, TargetArgs.mk.injEq]
  exact ⟨byte_toNat hg, angle_toInt haz, angle_toInt hel⟩

theorem readAdd_params (a : AddArgs) (hg : a.group < 256) (hd : a.dish < 256)
    (ho : ∀ o, a.offsets = some o → In24 o.az ∧ In24 o.el) : readAdd (addParams a) = a := by
  obtain ⟨group, dish, offsets⟩ := a
  simp only [readAdd, AddArgs.mk.injEq]
  refine ⟨byte_toNat hg, byte_toNat hd, ?_⟩
  cases offsets with
  | none => exact if_pos rfl
  | some o =>
    obtain ⟨az, el⟩ := ho o rfl
    refine (if_neg (show ¬ (8 = 2) by decide)).trans (congrArg some ?_)
    obtain ⟨oaz, oel⟩ := o
    simp only [Angles.mk.injEq]
    exact ⟨angle_toInt az, angle_toInt el⟩

theorem readWind_params (a : WindArgs) (hc : a.cell < 256) (hw : a.limits.watch < 65536) (hm : a.limits.stowMean < 65536)
    (hg : a.limits.gust < 65536) (hr : a.limits.release < 65536) (hh : a.limits.holdDown < 16777216) : readWind (windParams a) = a := by
  obtain ⟨cell, watch, stowMean, gust, release, holdDown⟩ := a
  simp only [readWind, WindArgs.mk.injEq, WindLimits.mk.injEq]
  exact ⟨byte_toNat hc, word_toNat hw, word_toNat hm, word_toNat hg, word_toNat hr, triple_toNat hh⟩

theorem readMode_params (a : ModeArgs) (hd : a.dish < 256) (hm : a.mode < 256) (hu : a.duty < 256) : readMode (modeParams a) = a := by
  obtain ⟨dish, mode, duty⟩ := a
  simp only [readMode, ModeArgs.mk.injEq]
  exact ⟨byte_toNat hd, byte_toNat hm, byte_toNat hu⟩

theorem readLimits_params (a : LimitsArgs) (hf : a.meltFloor < 256) (hi : a.settings.iceLimit < 65536)
    (hl : a.settings.snowLinger < 16777216) (hs : a.settings.settleMargin < 65536) (hw : a.settings.arrivalWindow < 65536)
    (hv : In24 a.settings.watchFloor) : readLimits (limitsParams a) = a := by
  obtain ⟨meltFloor, iceLimit, snowLinger, settleMargin, arrivalWindow, watchFloor⟩ := a
  simp only [readLimits, LimitsArgs.mk.injEq, Settings.mk.injEq]
  exact ⟨byte_toNat hf, word_toNat hi, triple_toNat hl, word_toNat hs, word_toNat hw, angle_toInt hv⟩

theorem readPlace_params (a : PlaceArgs) (hh : a.holder < 65536) (hd : a.dish < 256) (hs : a.scope < 256) : readPlace (placeParams a) = a := by
  obtain ⟨holder, dish, scope⟩ := a
  simp only [readPlace, PlaceArgs.mk.injEq]
  exact ⟨word_toNat hh, byte_toNat hd, byte_toNat hs⟩

theorem readRelease_params (a : ReleaseArgs) (ht : a.tag < 256) (hh : a.holder < 65536) : readRelease (releaseParams a) = a := by
  obtain ⟨tag, holder⟩ := a
  simp only [readRelease, ReleaseArgs.mk.injEq]
  exact ⟨byte_toNat ht, word_toNat hh⟩

/-- TABLE 11.4: the description fields, each within its width. -/
def DescribeFields.Within (f : DescribeFields) : Prop :=
  f.cell < 256 ∧ f.zone < 256 ∧ In24 f.azLower ∧ In24 f.azUpper ∧ In24 f.elLower ∧ In24 f.elUpper ∧
  f.azVMax < 65536 ∧ f.elVMax < 65536 ∧ f.azAMax < 65536 ∧ f.elAMax < 65536 ∧ f.pDrive < 256 ∧ f.pMelt < 256 ∧
  ∀ e, f.stowEl = some e → In24 e

theorem readDescribe_params (a : DescribeArgs) (hd : a.dish < 256) (hp : a.present < 256)
    (hf : ∀ f, a.fields = some f → f.Within) : readDescribe (describeParams a) = a := by
  obtain ⟨dish, present, fields⟩ := a
  cases fields with
  | none =>
    simp only [readDescribe, DescribeArgs.mk.injEq]
    exact ⟨byte_toNat hd, byte_toNat hp, if_pos rfl⟩
  | some f =>
    obtain ⟨hcell, hzone, hal, hau, hel, heu, hav, hev, haa, hea, hdrive, hmelt, hstow⟩ := hf f rfl
    obtain ⟨cell, zone, azLower, azUpper, elLower, elUpper, azVMax, elVMax, azAMax, elAMax, pDrive, pMelt, stowEl⟩ := f
    cases stowEl with
    | none =>
      dsimp only [describeParams, put8, put16, put24, putAngle, List.cons_append, List.nil_append, List.append_nil]
      simp only [readDescribe, DescribeArgs.mk.injEq, List.length_cons, List.length_nil, Nat.reduceAdd, Nat.reduceEqDiff, if_true, if_false,
        Option.some.injEq, DescribeFields.mk.injEq, and_true]
      exact ⟨byte_toNat hd, byte_toNat hp, byte_toNat hcell, byte_toNat hzone, angle_toInt hal, angle_toInt hau, angle_toInt hel,
        angle_toInt heu, word_toNat hav, word_toNat hev, word_toNat haa, word_toNat hea, byte_toNat hdrive, byte_toNat hmelt⟩
    | some e =>
      dsimp only [describeParams, put8, put16, put24, putAngle, List.cons_append, List.nil_append]
      simp only [readDescribe, DescribeArgs.mk.injEq, List.length_cons, List.length_nil, Nat.reduceAdd, Nat.reduceEqDiff, if_false,
        Option.some.injEq, DescribeFields.mk.injEq]
      exact ⟨byte_toNat hd, byte_toNat hp, byte_toNat hcell, byte_toNat hzone, angle_toInt hal, angle_toInt hau, angle_toInt hel,
        angle_toInt heu, word_toNat hav, word_toNat hev, word_toNat haa, word_toNat hea, byte_toNat hdrive, byte_toNat hmelt,
        angle_toInt (hstow e rfl)⟩

/-- R194: the bytes of a number, and two's complement. -/
theorem putAngle_eq (i : Int) : putAngle i = put24 (i % 16777216).toNat := by
  unfold putAngle
  rw [BitVec.toNat_ofInt]; rfl

theorem putInt16_eq (i : Int) : putInt16 i = put16 (i % 65536).toNat := by
  unfold putInt16
  rw [BitVec.toNat_ofInt]; rfl

theorem describeParams_some (dish present : Nat) (f : DescribeFields) : describeParams ⟨dish, present, some f⟩ =
    put8 dish ++ put8 present ++ put8 f.cell ++ put8 f.zone ++ putAngle f.azLower ++ putAngle f.azUpper ++ putAngle f.elLower ++
    putAngle f.elUpper ++ put16 f.azVMax ++ put16 f.elVMax ++ put16 f.azAMax ++ put16 f.elAMax ++ put8 f.pDrive ++ put8 f.pMelt ++
    (match f.stowEl with | none => [] | some e => putAngle e) := by
  unfold describeParams
  simp only [List.append_assoc] <;> rfl

/-- Settles O52. -/
theorem parametersReadBackAsWritten : Obligations.ParametersReadBackAsWritten := by
  unfold Obligations.ParametersReadBackAsWritten
  refine ⟨readDescribe_params, readTarget_params, readAdd_params, readWind_params, readMode_params, readLimits_params, fun n i => ?_,
    readPlace_params, readRelease_params, fun dish present f => ⟨?_, describeParams_some dish present f⟩, fun _ => rfl, fun a => ?_,
    fun _ => rfl, fun _ => rfl, fun _ => rfl, fun _ => rfl, fun _ => rfl⟩
  · have one : n / 256 ^ 0 = n := Nat.div_one n
    dsimp only
    rw [one]
    exact ⟨rfl, rfl, rfl, rfl, putAngle_eq i, putInt16_eq i⟩
  · exact List.append_nil _
  · rfl

/-! ### Frames (R183) -/

/-- R183: a frame built by TABLE 11.1 is taken as its request, whatever bytes follow. -/
theorem judgeFrame_frameBytes (r : Request) (more : List Byte) (s : State) (h : r.params.length ≤ 60) :
    judgeFrame (frameBytes r ++ more) s = takeFrame r s := by
  obtain ⟨code, label, params⟩ := r
  have short : params.length ≤ 60 := h
  have bytes : frameBytes ⟨code, label, params⟩ = BitVec.ofNat 8 (params.length + 4) :: code :: label :: params ++
      [crc (BitVec.ofNat 8 (params.length + 4) :: code :: label :: params)] := rfl
  have length : (frameBytes ⟨code, label, params⟩).length = params.length + 4 := by
    rw [bytes]; simp only [List.length_append, List.length_cons, List.length_nil]
  have first : ((frameBytes ⟨code, label, params⟩ ++ more).headD 0).toNat = params.length + 4 :=
    byte_toNat (by omega)
  have frame : (frameBytes ⟨code, label, params⟩ ++ more).take (params.length + 4) = frameBytes ⟨code, label, params⟩ := by
    rw [← length]; exact List.take_left ..
  have agrees : checkAgrees (frameBytes ⟨code, label, params⟩) = true := by
    unfold checkAgrees
    rw [bytes, List.dropLast_concat, List.getLastD_concat]
    exact beq_self_eq_true _
  have request : requestIn (frameBytes ⟨code, label, params⟩) = ⟨code, label, params⟩ := by
    have carried : ((frameBytes ⟨code, label, params⟩).drop 3).take (params.length + 4 - 4) = params := List.take_left ..
    unfold requestIn
    rw [length, carried]
    rfl
  unfold judgeFrame
  dsimp only
  rw [first, frame, request, if_neg (Nat.succ_ne_zero _), if_neg (by simp; omega), if_neg
    (by rw [List.length_append, length]; omega), if_pos agrees]

/-! ### Characters of the drive bus (R161, R195) -/

theorem dataChar_spec (b : Byte) : (dataChar b).msb = false ∧ (dataChar b).setWidth 8 = b := by
  unfold dataChar
  constructor
  · rw [BitVec.msb_setWidth]; simp
  · simp

theorem addressChar_spec (b : Byte) : (addressChar b.toNat).msb = true ∧ (addressChar b.toNat).setWidth 8 = b := by
  revert b
  decide +kernel

/-- R195: data characters carry their bytes. -/
theorem dataChars_bytes (bs : List Byte) : (bs.map dataChar).map (fun c => c.setWidth 8) = bs := by
  rw [List.map_map]
  exact List.map_id'' (fun b => (dataChar_spec b).2) bs

/-- R168: data characters alone, as many as a reply has, are all taken, whatever follows. -/
theorem replyData_dataChars {sent : Sent} {bs : List Byte} (more : List Char9) (h : bs.length = replyLength sent) :
    replyData sent (bs.map dataChar ++ more) = bs := by
  have taken : (bs.map dataChar ++ more).take (replyLength sent) = bs.map dataChar := by
    rw [← h, ← List.length_map (f := dataChar) (as := bs)]; exact List.take_left ..
  have all : (bs.map dataChar).takeWhile (fun c => !isAddress c) = bs.map dataChar := by
    rw [List.takeWhile_eq_self_iff]
    intro c hc
    obtain ⟨b, -, rfl⟩ := List.mem_map.mp hc
    unfold isAddress
    rw [(dataChar_spec b).1]; rfl
  unfold replyData
  rw [taken, all, dataChars_bytes]

/-! ### Reading a reply (R195, TABLE 11.7) -/

theorem bitOf_some_iff (n : Nat) (b : Bool) : bitOf n = some b ↔ n = b.toNat := by
  match n with
  | 0 => cases b <;> decide
  | 1 => cases b <;> decide
  | n + 2 => cases b <;> simp [bitOf]

theorem axisStateOf_some_iff (n : Nat) (a : AxisState) : axisStateOf n = some a ↔ n = a.number := by
  match n with
  | 0 => cases a <;> decide
  | 1 => cases a <;> decide
  | 2 => cases a <;> decide
  | 3 => cases a <;> decide
  | n + 4 => cases a <;> simp [axisStateOf, AxisState.number]

theorem driveFaultOf_some_iff (n : Nat) (f : DriveFault) : driveFaultOf n = some f ↔ n = f.number := by
  match n with
  | 0 => cases f <;> decide
  | 1 => cases f <;> decide
  | 2 => cases f <;> decide
  | 3 => cases f <;> decide
  | 4 => cases f <;> decide
  | 5 => cases f <;> decide
  | n + 6 => cases f <;> simp [driveFaultOf, DriveFault.number]

/-- R195: a reply is read exactly where its check agrees, and then it is the one whose every field the characters name. -/
theorem readReply_some_iff (bs : List Byte) (r : Reply) : readReply bs = some r ↔
    crc (bs.take 11) = bs.getD 11 0 ∧ field8 bs 1 = r.refused.toNat ∧ field8 bs 8 / 16 = r.observed.azState.number ∧
    field8 bs 8 % 16 = r.observed.elState.number ∧ field8 bs 9 = r.observed.fault.number ∧ field8 bs 10 = r.observed.heaterOn.toNat ∧
    r.observed.position = ⟨fieldAngle bs 2, fieldAngle bs 5⟩ := by
  rw [← bitOf_some_iff, ← axisStateOf_some_iff, ← axisStateOf_some_iff, ← driveFaultOf_some_iff, ← bitOf_some_iff]
  obtain ⟨refused, position, az, el, fault, heaterOn⟩ := r
  unfold readReply
  simp only [Option.bind_eq_bind, Option.bind_eq_some_iff]
  constructor
  · rintro ⟨_, h1, _, h2, _, h3, _, h4, _, h5, h⟩
    split at h
    case isTrue check =>
      cases h
      exact ⟨check, h1, h2, h3, h4, h5, rfl⟩
    case isFalse => cases h
  · rintro ⟨check, h1, h2, h3, h4, h5, rfl⟩
    exact ⟨_, h1, _, h2, _, h3, _, h4, _, h5, if_pos check⟩

/-- TABLE 11.7: a value of every field that is in its table is the number of one. -/
theorem bit_named {n : Nat} (h : n ≤ 1) : ∃ b : Bool, n = b.toNat := by
  rcases Nat.le_one_iff_eq_zero_or_eq_one.mp h with e | e
  · exact ⟨false, e⟩
  · exact ⟨true, e⟩

theorem axisState_named {n : Nat} (h : n ≤ 3) : ∃ a : AxisState, n = a.number := by
  match n, h with
  | 0, _ => exact ⟨.still, rfl⟩
  | 1, _ => exact ⟨.moving, rfl⟩
  | 2, _ => exact ⟨.arrived, rfl⟩
  | 3, _ => exact ⟨.fault, rfl⟩

theorem driveFault_named {n : Nat} (h : n ≤ 5) : ∃ f : DriveFault, n = f.number := by
  match n, h with
  | 0, _ => exact ⟨.none, rfl⟩
  | 1, _ => exact ⟨.limit, rfl⟩
  | 2, _ => exact ⟨.overcurrent, rfl⟩
  | 3, _ => exact ⟨.brake, rfl⟩
  | 4, _ => exact ⟨.estop, rfl⟩
  | 5, _ => exact ⟨.localControl, rfl⟩

theorem bit_le (b : Bool) : b.toNat ≤ 1 := by cases b <;> decide
theorem axisState_le (a : AxisState) : a.number ≤ 3 := by cases a <;> decide
theorem driveFault_le (f : DriveFault) : f.number ≤ 5 := by cases f <;> decide

/-- R195: a reply is refused exactly where its check differs or some field holds a value without a name. -/
theorem readReply_none_iff (bs : List Byte) : readReply bs = none ↔
    ¬ (crc (bs.take 11) = bs.getD 11 0 ∧ field8 bs 1 ≤ 1 ∧ field8 bs 8 / 16 ≤ 3 ∧ field8 bs 8 % 16 ≤ 3 ∧ field8 bs 9 ≤ 5 ∧
      field8 bs 10 ≤ 1) := by
  refine ⟨fun none ⟨check, h1, h2, h3, h4, h5⟩ => ?_, fun h => Option.eq_none_iff_forall_ne_some.mpr fun r hr => h ?_⟩
  · have named (r : Reply) : readReply bs ≠ some r := by rw [none]; nofun
    obtain ⟨refused, e1⟩ := bit_named h1
    obtain ⟨az, e2⟩ := axisState_named h2
    obtain ⟨el, e3⟩ := axisState_named h3
    obtain ⟨fault, e4⟩ := driveFault_named h4
    obtain ⟨heaterOn, e5⟩ := bit_named h5
    exact named ⟨refused, ⟨fieldAngle bs 2, fieldAngle bs 5⟩, az, el, fault, heaterOn⟩
      ((readReply_some_iff bs _).mpr ⟨check, e1, e2, e3, e4, e5, rfl⟩)
  · obtain ⟨check, e1, e2, e3, e4, e5, -⟩ := (readReply_some_iff bs r).mp hr
    rw [e1, e2, e3, e4, e5]
    exact ⟨check, bit_le _, axisState_le _, axisState_le _, driveFault_le _, bit_le _⟩

theorem replyBytes_length (addr : Nat) (r : Reply) : (replyBytes addr r).length = 12 := rfl

/-- TABLE 11.7: the twelfth character is the check of the eleven before it. -/
theorem replyBytes_check (addr : Nat) (r : Reply) : crc ((replyBytes addr r).take 11) = (replyBytes addr r).getD 11 0 := by
  obtain ⟨body, length, e⟩ : ∃ body : List Byte, body.length = 11 ∧ replyBytes addr r = body ++ [crc body] := ⟨_, rfl, rfl⟩
  rw [e, List.getD_append_right _ _ _ _ (by omega), ← length, List.take_left, Nat.sub_self]
  rfl

/-- TABLE 11.7: the twelve characters of a reply read back as it. -/
theorem readReply_replyBytes (addr : Nat) (r : Reply) (haz : In24 r.observed.position.az) (hel : In24 r.observed.position.el) :
    readReply (replyBytes addr r) = some r := by
  have states : field8 (replyBytes addr r) 8 = r.observed.azState.number * 16 + r.observed.elState.number := by
    have az := axisState_le r.observed.azState
    have el := axisState_le r.observed.elState
    exact byte_toNat (by omega)
  have el := axisState_le r.observed.elState
  refine (readReply_some_iff _ r).mpr ⟨replyBytes_check addr r, byte_toNat (Nat.lt_of_le_of_lt (bit_le _) (by decide)), by omega, by omega,
    byte_toNat (Nat.lt_of_le_of_lt (driveFault_le _) (by decide)), byte_toNat (Nat.lt_of_le_of_lt (bit_le _) (by decide)), ?_⟩
  have position : (⟨r.observed.position.az, r.observed.position.el⟩ : Angles) =
      ⟨fieldAngle (replyBytes addr r) 2, fieldAngle (replyBytes addr r) 5⟩ := by
    rw [Angles.mk.injEq]
    exact ⟨(angle_toInt haz).symm, (angle_toInt hel).symm⟩
  exact position

/-! ### Judging a transaction's end (R169) -/

theorem replyLength_eq (sent : Sent) : replyLength sent = if sent = .probe then 2 else 12 := by
  cases sent <;> rfl

theorem echoOf_eq (addr : Nat) (sent : Sent) : echoOf addr sent = if sent = .probe then 0x20 + addr else addr := by
  cases sent <;> rfl

theorem echoOf_lt {addr : Nat} (h : addr < 12) (sent : Sent) : echoOf addr sent < 256 := by
  rw [echoOf_eq]; split <;> omega

/-- What a whole reply or acknowledge shows. -/
def judgeWhole (sent : Sent) (data : List Byte) : Judged :=
  if sent = .probe then (if data.drop 1 = [0x5A] then .acknowledge else .failed .badCheck)
  else
    match readReply data with
    | some r => .reply r
    | none => .failed .badCheck

/-- R169: what data characters that begin with a character show, by the checks in order. -/
theorem judgeTransaction_cons {addr : Nat} {sent : Sent} {chars : List Char9} {cutShort : Bool} {e : Byte} {rest : List Byte}
    (h : replyData sent chars = e :: rest) : judgeTransaction addr sent chars cutShort =
      if e.toNat ≠ echoOf addr sent then .failed .badEcho
      else if rest.length + 1 < replyLength sent then .failed .short
      else judgeWhole sent (e :: rest) := by
  unfold judgeTransaction judgeWhole
  rw [h]
  dsimp only
  cases sent <;> rfl

theorem judgeTransaction_nil {addr : Nat} {sent : Sent} {chars : List Char9} {cutShort : Bool} (h : replyData sent chars = []) :
    judgeTransaction addr sent chars cutShort =
      if chars ≠ [] then .failed .badEcho else if cutShort then .failed .short else .failed .noEcho := by
  unfold judgeTransaction
  rw [h]

/-- The characters that are taken, as R168 says it. -/
theorem replyData_eq (sent : Sent) (chars : List Char9) : replyData sent chars =
    ((chars.take (replyLength sent)).takeWhile (fun c => c.msb = false)).map (fun c => c.setWidth 8) := by
  have ends : (fun c : Char9 => !isAddress c) = fun c => decide (c.msb = false) := by
    funext c; unfold isAddress; cases c.msb <;> rfl
  unfold replyData
  rw [ends]

/-- Settles O31: the checks in their order, and every field of a reply by its name. -/
theorem transactionChecksInOrder : Obligations.TransactionChecksInOrder := by
  unfold Obligations.TransactionChecksInOrder
  refine ⟨fun addr sent chars cutShort small => ?_, fun bs => ?_, by decide, by decide⟩
  · dsimp only
    rw [← replyLength_eq, ← echoOf_eq, ← replyData_eq]
    have echo (e : Byte) : e.toNat ≠ echoOf addr sent ↔ ¬ some e = some (BitVec.ofNat 8 (echoOf addr sent)) := by
      rw [Option.some.injEq, not_iff_not]
      exact ⟨byte_of_toNat, fun h => by rw [h]; exact byte_toNat (echoOf_lt small sent)⟩
    have echoed (he : (replyData sent chars).head? = some (BitVec.ofNat 8 (echoOf addr sent))) : judgeTransaction addr sent chars cutShort =
        if (replyData sent chars).length < replyLength sent then .failed .short else judgeWhole sent (replyData sent chars) := by
      cases hd : replyData sent chars with
      | nil => rw [hd] at he; cases he
      | cons e rest =>
        rw [hd] at he
        rw [judgeTransaction_cons hd, if_neg (fun hn => (echo e).mp hn he)]
        rfl
    have silent (h : chars = []) : replyData sent chars = [] := by rw [h, replyData_eq, List.take_nil]; rfl
    refine ⟨fun h hc => ?_, fun h hc => ?_, fun h he => ?_, fun he hl => ?_, fun he hl => ?_⟩
    · rw [judgeTransaction_nil (silent h), if_neg (not_not.mpr h), hc]; rfl
    · rw [judgeTransaction_nil (silent h), if_neg (not_not.mpr h), hc]; rfl
    · cases hd : replyData sent chars with
      | nil => rw [judgeTransaction_nil hd, if_pos h]
      | cons e rest =>
        rw [hd] at he
        rw [judgeTransaction_cons hd, if_pos ((echo e).mpr he)]
    · rw [echoed he, if_pos hl]
    · rw [echoed he, if_neg (Nat.not_lt.mpr (Nat.le_of_eq hl.symm))]; rfl
  · have angle (k : Nat) : fieldAngle bs k =
        (BitVec.ofNat 24 (65536 * (bs.getD k 0).toNat + 256 * (bs.getD (k + 1) 0).toNat + (bs.getD (k + 2) 0).toNat)).toInt := by
      unfold fieldAngle field24 field16 field8
      congr 2
      omega
    have bit (b : Bool) : b = true ↔ b.toNat = 1 := by cases b <;> decide
    refine ⟨readReply_none_iff bs, fun r h => ?_⟩
    obtain ⟨-, h1, h2, h3, h4, h5, position⟩ := (readReply_some_iff bs r).mp h
    dsimp only
    rw [← angle, ← angle, bit, bit, ← h1, ← h5]
    exact ⟨Iff.rfl, position, h2.symm, h3.symm, h4.symm, Iff.rfl⟩

/-- R169, R195: the characters that report a reply are judged to be it. -/
theorem judgeTransaction_replyBytes {addr : Nat} {sent : Sent} (r : Reply) (more : List Char9) (ha : addr < 12) (hs : sent ≠ .probe)
    (haz : In24 r.observed.position.az) (hel : In24 r.observed.position.el) :
    judgeTransaction addr sent ((replyBytes addr r).map dataChar ++ more) false = .reply r := by
  have length : replyLength sent = 12 := by rw [replyLength_eq, if_neg hs]
  have echo : (BitVec.ofNat 8 addr).toNat = echoOf addr sent := by rw [echoOf_eq, if_neg hs]; exact byte_toNat (by omega)
  have data := replyData_dataChars (sent := sent) more ((replyBytes_length addr r).trans length.symm)
  rw [judgeTransaction_cons (e := BitVec.ofNat 8 addr) (rest := (replyBytes addr r).tail) data, if_neg (not_not.mpr echo), length,
    if_neg (show ¬ (replyBytes addr r).tail.length + 1 < 12 from Nat.lt_irrefl 12)]
  unfold judgeWhole
  rw [if_neg hs]
  change (match readReply (replyBytes addr r) with | some r => Judged.reply r | none => .failed .badCheck) = _
  rw [readReply_replyBytes addr r haz hel]

theorem orderChars_eq {sent : Sent} (hs : sent ≠ .probe) (addr delay : Nat) :
    orderChars addr sent delay = addressChar addr :: (orderData sent delay ++ [crc (orderData sent delay)]).map dataChar := by
  cases sent with
  | probe => exact absurd rfl hs
  | motion | heat | status => rfl

/-- Settles O53. -/
theorem framesReadBackAsBuilt : Obligations.FramesReadBackAsBuilt := by
  unfold Obligations.FramesReadBackAsBuilt
  refine ⟨fun r more s h => judgeFrame_frameBytes r more s h, fun addr sent r more ha hs haz hel => judgeTransaction_replyBytes r more ha hs haz hel,
    fun kind az el delay => ⟨rfl, rfl, rfl, rfl, rfl, rfl⟩, fun addr sent delay => ⟨rfl, fun hs => ?_⟩, fun b => ?_⟩
  · rw [orderChars_eq hs]
    refine ⟨rfl, rfl, ?_⟩
    rw [List.drop_one, List.tail_cons, dataChars_bytes]
    exact crc_append_self _
  · exact ⟨(addressChar_spec b).1, (addressChar_spec b).2, (dataChar_spec b).1, (dataChar_spec b).2⟩

end Machine
end Sys2Proof
end

section
/-! PROOFS. A step with and without a waiting command (O1, O2), the power-on values (O4, O5), and settling (O39). -/

namespace Sys2Proof
namespace Machine

/-! ### A step (log entries 9 and 11) -/

/-- Settles O1. -/
theorem stepRunsFrontCommand : Obligations.StepRunsFrontCommand := by
  unfold Obligations.StepRunsFrontCommand
  exact fun _ _ _ => rfl

theorem when_nil {p : Bool} {i : Instr} (h : when p i = []) : p = false := by
  cases p
  · rfl
  · cases h

theorem step_empty {s : State} (hp : s.pending = []) : step s = advance s := by
  unfold step; rw [hp]

/-- No command waits and no run begins: the first due command, or a centisecond. -/
theorem step_idle {s : State} (hp : s.pending = []) (hr : runStartDue s = false) : step s =
    match dueCommands s with
    | i :: _ => exec i (spendFree s)
    | [] => .next (tick (spendFree s)) := by
  rw [step_empty hp]
  unfold advance
  rw [hr]
  rfl

theorem runStartDue_false_iff (s : State) : runStartDue s = false ↔ s.port.running.isSome = true ∨ s.port.queue = [] := by
  unfold runStartDue
  cases s.port.running <;> cases s.port.queue <;> simp

/-- The run under way stands first, unless it goes on. -/
theorem dueCommands_running {s : State} {r : Request} (h : s.port.running = some r) : dueCommands s =
    (if Config.runGoesOn s.freeCount then [] else [commandOf r]) ++ dueCommands { s with port := { s.port with running := none } } := by
  have runs : dueRuns s = if Config.runGoesOn s.freeCount then [] else [commandOf r] := by
    unfold dueRuns when
    rw [h]
    cases Config.runGoesOn s.freeCount <;> rfl
  unfold dueCommands
  rw [runs]
  simp only [List.append_assoc]
  rfl

/-- With no run under way the end of the conversion stands first, unless it goes on. -/
theorem dueCommands_conversion {s : State} {i : Instr} (h : s.port.running = none) (goes : Config.conversionGoesOn s.freeCount = false)
    (ends : conversionEnds s = [i]) : (dueCommands s).head? = some i := by
  have runs : dueRuns s = [] := by unfold dueRuns; rw [h]
  have conversions : dueConversions s = [i] := by unfold dueConversions; rw [ends, goes]; rfl
  unfold dueCommands
  rw [runs, conversions]
  simp only [List.nil_append, List.append_assoc, List.cons_append, List.head?_cons]

theorem countIf_eq (runs : Bool) (n : Option Nat) : countIf runs n = if runs = true then n.map (· - 1) else n := rfl

theorem tick_dish (r : DishRecord) : r.tick =
    { r with quiet := if r.motion = .cut ∧ r.quietStopped = false then r.quiet.map (· - 1) else r.quiet } := by
  have runs : (r.motion == .cut && !r.quietStopped) = true ↔ r.motion = .cut ∧ r.quietStopped = false := by simp
  unfold DishRecord.tick
  rw [countIf_eq]
  simp only [runs]

theorem tick_cell (c : Cell) : c.tick =
    { c with holdDown := if c.mean < c.limits.release ∧ c.sensorLost = false then c.holdDown.map (· - 1) else c.holdDown } := by
  have absent : c.holdDown = none → c.holdDown.map (· - 1) = c.holdDown := fun h => by rw [h]; rfl
  unfold Cell.tick Cell.holdDownRuns
  rw [countIf_eq]
  cases h : c.holdDown with
  | none => simp
  | some n => simp

theorem tick_linger (w : MeltWeather) : w.tick.linger =
    if w.on = true ∧ w.precip[(0 : SensorNo)].reading = some false ∧ w.precip[(1 : SensorNo)].reading = some false
    then w.linger.map (· - 1) else w.linger := by
  have runs : w.lingerRuns = true ↔
      w.on = true ∧ w.precip[(0 : SensorNo)].reading = some false ∧ w.precip[(1 : SensorNo)].reading = some false := by
    unfold MeltWeather.lingerRuns
    rw [Bool.and_eq_true, Bool.and_eq_true, beq_iff_eq, beq_iff_eq, and_assoc]
  unfold MeltWeather.tick
  rw [countIf_eq]
  simp only [runs]

theorem tick_converter (x : Scan) : x.tick = { x with crossed := decide (x.converter ≠ .idle) } := by
  unfold Scan.tick
  cases x.converter <;> rfl

/-! ### Nothing is due -/

section
variable {s : State} (due : dueCommands s = [])
include due

theorem boundary_taken (h : s.siteTime % 1600 = 0) : s.meltWeather.lastBoundary = some s.siteTime := by
  obtain ⟨-, -, rounds, -⟩ := dueCommands_nil due
  unfold dueRounds at rounds
  rw [List.append_eq_nil_iff, List.append_eq_nil_iff] at rounds
  have taken := when_nil rounds.1.1
  unfold boundaryDue at taken
  rw [show (s.siteTime % Config.heaterPeriod == 0) = true from beq_iff_eq.mpr h, Bool.true_and] at taken
  simpa using taken

theorem scan_begun (h : s.siteTime % 25 = 0) : s.scan.round.isSome = true ∨ s.scan.lastStart = some s.siteTime := by
  obtain ⟨-, -, rounds, -⟩ := dueCommands_nil due
  unfold dueRounds at rounds
  rw [List.append_eq_nil_iff, List.append_eq_nil_iff] at rounds
  have taken := when_nil rounds.1.2
  unfold scanDue at taken
  rw [show (s.siteTime % Config.scanPeriod == 0) = true from beq_iff_eq.mpr h, Bool.true_and, Bool.and_eq_false_iff] at taken
  refine taken.imp (fun h => ?_) fun h => by simpa using h
  cases hr : s.scan.round with
  | none => rw [hr] at h; cases h
  | some r => rfl

/-- R85: a conversion that must end leaves a command due. -/
theorem no_late (h : conversionForced s = true) : conversionEnds s = [] := by
  obtain ⟨-, -, -, -, -, -, -, late⟩ := dueCommands_nil due
  unfold lateConversions at late
  rwa [if_pos h] at late

theorem channel_idle (h : s.scan.converter = .channel) : s.scan.round = none := by
  cases hr : s.scan.round with
  | none => rfl
  | some r =>
    have none := no_late due (by unfold conversionForced; rw [hr]; rfl)
    unfold conversionEnds at none
    rw [h, hr] at none
    cases none

theorem spot_fresh (h : s.scan.converter = .spot ∨ s.scan.converter = .dropped) : s.scan.round = none ∧ s.scan.crossed = false := by
  have ends : conversionEnds s ≠ [] := by
    unfold conversionEnds
    rcases h with h | h <;> rw [h] <;> nofun
  have free : conversionForced s = false := by
    rw [← Bool.not_eq_true]
    exact fun forced => ends (no_late due forced)
  unfold conversionForced at free
  rw [Bool.or_eq_false_iff] at free
  exact ⟨Option.not_isSome_iff_eq_none.mp (by rw [free.1]; exact Bool.false_ne_true), free.2⟩

theorem windows_done (d : DishNo) : s.ownDue d = false ∧ ∀ w ∈ s.circuits[d].window, s.siteTime < w.closes := by
  obtain ⟨-, -, -, -, windows, -⟩ := dueCommands_nil due
  have none := List.flatMap_eq_nil_iff.mp windows d (mem_allDishes d)
  rw [List.append_eq_nil_iff] at none
  have close := when_nil none.1
  have own := when_nil none.2
  rw [close, Bool.not_false, Bool.true_and] at own
  refine ⟨own, fun w hw => ?_⟩
  unfold closeDue at close
  rw [Option.mem_def.mp hw] at close
  exact Nat.not_le.mp (of_decide_eq_false close)

/-- R163: at the close of a round no visit is left to make and no transaction is under way. -/
theorem round_closed {g : SegNo} (closing : roundClosing s g = true) :
    s.nextVisit g = none ∧ ∀ d : DishNo, segOf d = g → s.bus[d].inFlight = none := by
  obtain ⟨-, -, -, visits, -, -, ends, -⟩ := dueCommands_nil due
  constructor
  · have none := List.flatMap_eq_nil_iff.mp visits g (List.mem_finRange g)
    cases hv : s.nextVisit g with
    | none => rfl
    | some d =>
      rw [hv] at none
      have now := when_nil none
      unfold visitNow at now
      rw [closing, Bool.true_or] at now
      cases now
  · intro d hd
    have none : endDue s d = false := when_nil (List.flatMap_eq_nil_iff.mp ends d (mem_allDishes d))
    cases hx : s.bus[d].inFlight with
    | none => rfl
    | some x =>
      unfold endDue endForced at none
      rw [hx] at none
      dsimp only at none
      rw [hd, closing, Bool.true_or, Bool.true_or] at none
      cases none

/-- R163: at a multiple of 10 cs every round has begun. -/
theorem poll_begun (g : SegNo) (h : s.siteTime % 10 = 0) : s.engines[g].roundStart = some s.siteTime := by
  by_contra hn
  have instant : (s.siteTime % Config.pollPeriod == 0) = true := beq_iff_eq.mpr h
  have fresh : (s.engines[g].roundStart != some s.siteTime) = true := bne_iff_ne.mpr hn
  obtain ⟨visits, flights⟩ := round_closed due (g := g) (by
    unfold roundClosing
    rw [instant, fresh, Bool.and_self, Bool.or_true])
  obtain ⟨-, -, rounds, -⟩ := dueCommands_nil due
  unfold dueRounds at rounds
  have none : pollDue s g = false := when_nil (List.flatMap_eq_nil_iff.mp (List.append_eq_nil_iff.mp rounds).2 g (List.mem_finRange g))
  have free : s.lineFree g = true := (lineFree_iff s g).mpr flights
  unfold pollDue State.roundOver at none
  rw [instant, fresh, free, visits] at none
  cases none

end

/-- Settles O2: what stands first, what a centisecond changes, and what has been done when nothing is due. -/
theorem emptyQueueTakesDueEventOrPassesTime : Obligations.EmptyQueueTakesDueEventOrPassesTime := by
  unfold Obligations.EmptyQueueTakesDueEventOrPassesTime
  intro s hp
  refine ⟨fun r rest idle queue => ?_, fun hr => ?_, fun due => ?_⟩
  · have begins : runStartDue s = true := by unfold runStartDue; rw [idle, queue]; rfl
    have started : startRun (spendFree s) = { s with
        port := { s.port with queue := s.port.queue.tail, running := s.port.queue.head? }, freeCount := s.freeCount + 1 } := rfl
    rw [step_empty hp]
    unfold advance
    rw [if_pos begins, started, queue]
    rfl
  · have run := step_idle hp ((runStartDue_false_iff s).mpr hr)
    refine ⟨fun i rest due => ?_, fun r hr => dueCommands_running hr, fun idle goes => ⟨fun r hc hr => ?_, fun hc => ?_⟩, fun due => ?_⟩
    · rw [run, due]; rfl
    · exact dueCommands_conversion idle goes (by unfold conversionEnds; rw [hc, hr])
    · exact dueCommands_conversion idle goes (by unfold conversionEnds; rcases hc with hc | hc <;> rw [hc])
    · rw [due] at run
      refine ⟨_, run, ?_, fun d => ?_, fun c => ?_, tick_linger s.meltWeather⟩
      · rw [← tick_converter]; rfl
      · rw [tick_dishes]; exact tick_dish s.dishes[d]
      · rw [tick_cells]; exact tick_cell s.cells[c]
  · have before (h : s.siteTime % 10 = 9) (g : SegNo) : roundClosing s g = true := by
      have next : ((s.siteTime + 1) % Config.pollPeriod == 0) = true := beq_iff_eq.mpr (by change (s.siteTime + 1) % 10 = 0; omega)
      unfold roundClosing
      rw [next, Bool.true_or]
    exact ⟨boundary_taken due, scan_begun due, fun d x hx => began_now due hx, channel_idle due, spot_fresh due, windows_done due,
      poll_begun due, fun g h => round_closed due (before h g)⟩

/-! ### Power-on -/

/-- Settles O5. -/
theorem powerOnResetRestoresEverything : Obligations.PowerOnResetRestoresEverything := by
  unfold Obligations.PowerOnResetRestoresEverything
  exact fun _ => rfl

theorem reset_coverage (d : DishNo) : State.reset.coverage d = ⟨false, false, false⟩ := by
  unfold State.coverage
  rw [coverageIn_eq]
  simp only [reset_tags]
  rfl

theorem reset_stowDemand (d : DishNo) : State.reset.stowDemand d = false := by
  unfold State.stowDemand
  rw [reset_cells]
  rfl

/-- Settles O4. -/
theorem resetValues : Obligations.ResetValues := by
  unfold Obligations.ResetValues
  have unblocked (d : DishNo) : State.reset.blocked d = none := by unfold State.blocked; rw [reset_stowDemand]; rfl
  have uniced (d : DishNo) : State.reset.iced d = false := by unfold State.iced; rw [reset_circuits]; rfl
  have calm : State.reset.stowLine = false := by
    unfold State.stowLine
    simp only [reset_cells]
    rfl
  have quiet : State.reset.attn = false := by
    rw [← Bool.not_eq_true, attn_iff, not_or]
    refine ⟨not_not.mpr rfl, ?_⟩
    rintro ⟨k, hk⟩
    rw [reset_conditions] at hk
    cases hk
  refine ⟨⟨rfl, rfl⟩, fun d => ?_, reset_groups, fun d => ⟨reset_drive d, reset_grants d⟩, rfl, fun k => Vector.getElem_replicate ..,
    ⟨rfl, rfl, rfl, rfl, rfl⟩, reset_cells, ⟨rfl, fun d => Vector.getElem_replicate .., rfl, rfl, calm⟩, fun d => ?_,
    ⟨fun z => ?_, fun k => Vector.getElem_replicate .., rfl, rfl, rfl⟩, reset_tags, reset_bus, rfl, rfl, rfl, rfl, reset_conditions, quiet⟩
  · rw [reset_dishes]
    exact ⟨rfl, rfl, rfl, rfl, rfl, rfl, rfl, rfl, rfl, reset_coverage d, reset_stowDemand d, unblocked d, uniced d⟩
  · rw [reset_circuits]
    exact ⟨rfl, rfl, rfl, rfl, rfl, rfl⟩
  · have zone : State.reset.meltWeather.zones[z] = ⟨none, .failed⟩ := Vector.getElem_replicate ..
    rw [zone]

/-! ### Settling (R6) -/

theorem settlesTo_eq (s : State) (d : DishNo) : s.settlesTo d =
    if s.stowDemand d = true ∧ (s.coverage d).el = false then .stowQueued
    else if (s.coverage d).az = true ∨ (s.coverage d).el = true then .locked
    else .free := by
  unfold State.settlesTo Coverage.motion
  simp only [Bool.and_eq_true, Bool.not_eq_true', Bool.or_eq_true]

/-- Settles O39. -/
theorem settlingTakesTheFirstStateThatApplies : Obligations.SettlingTakesTheFirstStateThatApplies := by
  unfold Obligations.SettlingTakesTheFirstStateThatApplies
  intro d s
  have queues : s.settlesTo d = .stowQueued ↔ s.stowDemand d = true ∧ (s.coverage d).el = false := by
    rw [settlesTo_eq]
    split_ifs with h1 h2
    · exact iff_of_true rfl h1
    · exact iff_of_false nofun h1
    · exact iff_of_false nofun h1
  dsimp only
  rw [← settlesTo_eq, settle_eq]
  exact ⟨rfl, by simp only [queues], by simp only [queues]⟩

end Machine
end Sys2Proof
end

section
/-! PROOFS. What the shared operations leave of the whole state: postings, windows (O37), stopping, cutting and losing a dish (O35, O32). -/

namespace Sys2Proof
namespace Machine

/-! ### A table entry changed twice, and not at all -/

theorem modDish_modDish (d : DishNo) (f g : DishRecord → DishRecord) (s : State) :
    (s.modDish d f).modDish d g = s.modDish d fun r => g (f r) := by
  unfold State.modDish
  dsimp only
  rw [getElem_set_same, Vector.set_set]

theorem modDish_eq (d : DishNo) (f : DishRecord → DishRecord) (s : State) :
    s.modDish d f = { s with dishes := s.dishes.set d (f s.dishes[d]) } := rfl

theorem modCircuit_modCircuit (d : DishNo) (f g : Circuit → Circuit) (s : State) :
    (s.modCircuit d f).modCircuit d g = s.modCircuit d fun c => g (f c) := by
  unfold State.modCircuit
  dsimp only
  rw [getElem_set_same, Vector.set_set]

theorem set_getElem_self {α : Type} {n : Nat} (v : Vector α n) (i : Fin n) : v.set i v[i] = v := Vector.set_getElem_self _

/-! ### Postings read the bus alone (R165, R167) -/

theorem postMotion_bus {s t : State} (d : DishNo) (o : Order) (h : t.bus = s.bus) : (postMotion d o t).bus = (postMotion d o s).bus := by
  unfold postMotion State.linked State.modBus
  rw [h]
  split
  · rfl
  · exact h

theorem postHeat_bus {s t : State} (d : DishNo) (on : Bool) (h : t.bus = s.bus) : (postHeat d on t).bus = (postHeat d on s).bus := by
  unfold postHeat State.linked State.modBus
  rw [h]
  split
  · rfl
  · exact h

/-- R138: a heat order posted over another replaces it. -/
theorem postHeat_again (d : DishNo) (on off : Bool) (s : State) : (postHeat d on (postHeat d off s)).bus = (postHeat d on s).bus := by
  cases h : s.bus[d].link with
  | lost => rw [postHeat_of_lost off h]
  | active =>
    have still : (s.modBus d fun b => { b with heat := some off, inFlight := b.inFlight.map InFlight.noteHeat }).bus[d].link = .active := by
      rw [State.modBus_same]; exact h
    rw [postHeat_of_active off h, postHeat_of_active on still, postHeat_of_active on h]
    unfold State.modBus
    dsimp only
    rw [getElem_set_same, Vector.set_set, Option.map_map]
    rfl

/-! ### Heater windows (R135, R136, R138) -/

/-- A circuit whose own window opens now. -/
def State.opened (s : State) (d : DishNo) : Circuit :=
  { s.circuits[d] with window := some ⟨s.siteTime, s.siteTime + s.grants[d].duty * 100, .own⟩, ownOpened := true }

theorem openWindow_eq (d : DishNo) (s : State) :
    openWindow d s = { s with circuits := s.circuits.set d (s.opened d), bus := (postHeat d true s).bus } := by
  unfold openWindow
  rw [postHeat_touches, postHeat_bus (s := s) d true]
  · rfl
  · rfl

/-- R135: a window closes, and the own window opens if it is due at the same instant. -/
theorem closeWindow_eq (d : DishNo) (s : State) : closeWindow d s = { s with
    bus := (postHeat d (s.ownDue d) s).bus
    circuits := s.circuits.set d (if s.ownDue d = true then s.opened d else { s.circuits[d] with window := none }) } := by
  have shut : postHeat d false (s.modCircuit d fun c => { c with window := none }) =
      { s with circuits := s.circuits.set d { s.circuits[d] with window := none }, bus := (postHeat d false s).bus } := by
    rw [postHeat_touches, postHeat_bus (s := s) d false]
    · rfl
    · rfl
  have due : ({ s with circuits := s.circuits.set d { s.circuits[d] with window := none }, bus := (postHeat d false s).bus } : State).ownDue d =
      s.ownDue d := by
    unfold State.ownDue State.periodStart
    dsimp only
    rw [getElem_set_same]
  unfold closeWindow
  dsimp only
  rw [shut, due]
  cases h : s.ownDue d
  · rfl
  · rw [if_pos rfl, if_pos rfl, openWindow_eq]
    unfold State.opened
    dsimp only
    rw [getElem_set_same, Vector.set_set]
    rw [postHeat_bus (s := postHeat d false s) d true, postHeat_again]
    rfl

theorem closeWindow_unopened {d : DishNo} {s : State} (h : s.ownDue d = false) : closeWindow d s = { s with
    circuits := s.circuits.set d { s.circuits[d] with window := none }, bus := (postHeat d false s).bus } := by
  rw [closeWindow_eq, h]; rfl

/-- R135: the instant at which the own window is due. -/
theorem ownDue_iff (d : DishNo) (s : State) : s.ownDue d = true ↔
    s.circuits[d].ownOpened = false ∧ 0 < s.grants[d].duty ∧
    ∃ b, s.meltWeather.lastBoundary = some b ∧ s.siteTime = b + d.val % 16 * 100 := by
  unfold State.ownDue State.periodStart windowOffset
  rw [Bool.and_eq_true, Bool.and_eq_true, Bool.and_eq_true, Bool.not_eq_true', decide_eq_true_iff, beq_iff_eq, and_assoc, and_assoc]
  cases s.meltWeather.lastBoundary with
  | none => simp
  | some b => simp [Config.sixteenth]

theorem scheduleWindow_eq (d : DishNo) (s : State) :
    scheduleWindow d s = (
      match s.circuits[d].window with
      | none => s.modCircuit d fun c => { c with ownOpened := false }
      | some w =>
        if min w.closes (s.siteTime + s.grants[d].duty * 100) ≤ s.siteTime then
          closeWindow d (s.modCircuit d fun c => { c with ownOpened := false })
        else s.modCircuit d fun c =>
          { c with ownOpened := false, window := some ⟨w.opened, min w.closes (s.siteTime + s.grants[d].duty * 100), .carried⟩ }) := by
  unfold scheduleWindow
  dsimp only
  rw [State.modCircuit_same]
  cases s.circuits[d].window with
  | none => rfl
  | some w =>
    dsimp only
    rw [modCircuit_modCircuit]
    rfl

theorem lowerDuty_eq (d : DishNo) (duty : Nat) (s : State) :
    lowerDuty d duty s = (
      match s.circuits[d].window with
      | none => s.modGrant d fun g => { g with duty := duty }
      | some w =>
        if (if w.kind = .own then w.opened + duty * 100 else min w.closes (s.meltWeather.lastBoundary.getD 0 + duty * 100)) ≤ s.siteTime then
          closeWindow d (s.modGrant d fun g => { g with duty := duty })
        else (s.modGrant d fun g => { g with duty := duty }).modCircuit d fun c =>
          { c with window := some ⟨w.opened,
              if w.kind = .own then w.opened + duty * 100 else min w.closes (s.meltWeather.lastBoundary.getD 0 + duty * 100), w.kind⟩ }) := by
  have closes (w : Window) : refittedClose (s.meltWeather.lastBoundary.getD 0) duty w =
      if w.kind = .own then w.opened + duty * 100 else min w.closes (s.meltWeather.lastBoundary.getD 0 + duty * 100) := by
    unfold refittedClose
    cases w.kind <;> rfl
  unfold lowerDuty refitWindow State.periodStart
  rw [State.modGrant_same]
  cases h : s.circuits[d].window with
  | none =>
    have window : (s.modGrant d fun g => { g with duty := duty }).circuits[d].window = none := h
    rw [window]
  | some w =>
    have window : (s.modGrant d fun g => { g with duty := duty }).circuits[d].window = some w := h
    rw [window]
    dsimp only [State.modGrant_meltWeather]
    rw [closes]
    rfl

/-- Settles O37. -/
theorem windowsOpenAndCloseOnTime : Obligations.WindowsOpenAndCloseOnTime := by
  unfold Obligations.WindowsOpenAndCloseOnTime
  have opens (d : DishNo) (s : State) : exec (.windowOpen d) s =
      .next (if !s.ownDue d then s else if s.circuits[d].window.isSome then closeWindow d s else openWindow d s) := rfl
  have closes (d : DishNo) (s : State) : exec (.windowClose d) s = .next (if closeDue s d then closeWindow d s else s) := rfl
  have overdue {d : DishNo} {s : State} {w : Window} (h : s.circuits[d].window = some w) : closeDue s d = true ↔ w.closes ≤ s.siteTime := by
    unfold closeDue; rw [h]; exact decide_eq_true_iff
  refine ⟨fun d s => ⟨ownDue_iff d s, fun due none => ?_, fun early => ?_, fun w hw late early => ?_, fun early => ?_⟩,
    fun d s => ⟨closeWindow_eq d s, fun w hw due => ?_, fun w hw late => ?_⟩, fun d s => ?_, fun d duty s => ?_⟩
  · rw [opens, due, none]
    exact congrArg _ (openWindow_eq d s)
  · rw [opens, early]; rfl
  · rw [closes, if_pos ((overdue hw).mpr late), closeWindow_unopened early]
  · have idle : ¬ closeDue s d = true := fun h => by
      cases hw : s.circuits[d].window with
      | none => unfold closeDue at h; rw [hw] at h; cases h
      | some w => exact absurd ((overdue hw).mp h) (Nat.not_le.mpr (early w hw))
    rw [closes, if_neg idle]
  · rw [opens, due, hw]; rfl
  · rw [closes, if_pos ((overdue hw).mpr late)]
  · rw [scheduleWindow_eq]
    cases s.circuits[d].window <;> rfl
  · rw [lowerDuty_eq]
    cases s.circuits[d].window <;> rfl

/-! ### Stopping, cutting and losing a dish (R11, R13, R16) -/

theorem stopping_again {r : DishRecord} (g : Option GroupNo) (h : r.motion = .stopping) :
    { r with group := g } = { r with motion := .stopping, group := g } := by
  obtain ⟨present, desc, motion, mark, group⟩ := r
  subst h
  rfl

theorem goStopping_dishes (d : DishNo) (keep : Bool) (s : State) : (goStopping d keep s).dishes = s.dishes.set d
    { s.dishes[d] with motion := .stopping, group := if keep = true then s.dishes[d].group else none } := by
  have stop (u : State) : (setKind d .stop (postMotion d .hold ((setMotion d .stopping u).setStowMove d none))).dishes =
      u.dishes.set d { u.dishes[d] with motion := .stopping } := by
    rw [postMotion_touches]; rfl
  unfold goStopping
  dsimp only
  split
  case isTrue h =>
    cases keep
    · exact congrArg (s.dishes.set d) (stopping_again none h)
    · exact (set_getElem_self s.dishes d).symm.trans (congrArg (s.dishes.set d) (stopping_again _ h))
  case isFalse =>
    rw [stop]
    cases keep
    · have cleared : (if false = true then s else s.modDish d fun r => { r with group := none }) = s.modDish d fun r => { r with group := none } := rfl
      rw [cleared, State.modDish_same]
      exact Vector.set_set ..
    · rfl

theorem goStopping_of_stopping {d : DishNo} {s : State} (keep : Bool) (h : s.dishes[d].motion = .stopping) :
    goStopping d keep s = { s with dishes := (goStopping d keep s).dishes } := by
  unfold goStopping
  dsimp only
  rw [if_pos h]
  cases keep <;> rfl

/-- R11: a dish not yet STOPPING. -/
theorem goStopping_of_moving {d : DishNo} {s : State} (keep : Bool) (h : s.dishes[d].motion ≠ .stopping) :
    goStopping d keep s = { s with
      dishes := (goStopping d keep s).dishes, bus := (postMotion d .hold s).bus, stowMoves := s.stowMoves.set d none
      drive := s.drive.set d (s.drive[d].withKind .stop) } := by
  have stop (u : State) (hb : u.bus = s.bus) : setKind d .stop (postMotion d .hold ((setMotion d .stopping u).setStowMove d none)) =
      { u with
        dishes := u.dishes.set d { u.dishes[d] with motion := .stopping }, bus := (postMotion d .hold s).bus
        stowMoves := u.stowMoves.set d none, drive := u.drive.set d (u.drive[d].withKind .stop) } := by
    rw [postMotion_touches, postMotion_bus (s := s) d .hold (show ((setMotion d .stopping u).setStowMove d none).bus = s.bus from hb)]
    rfl
  unfold goStopping
  dsimp only
  rw [if_neg h, stop]
  · cases keep <;> rfl
  · cases keep <;> rfl

/-- What a cut leaves of a dish record. -/
def DishRecord.cutFor (why : CutReason) (r : DishRecord) : DishRecord :=
  { r with motion := .cut, cutReason := some why, group := none, quiet := none, quietStopped := false }

/-- What a departure from the stow queue leaves of it and makes due. -/
theorem leaveIfQueued_eq (d : DishNo) (s : State) : (if s.dishes[d].motion = .stowQueued then leaveQueue d s else s) = { s with
    stowQueue := if s.dishes[d].motion = .stowQueued then s.stowQueue.filter (fun e => e ≠ d) else s.stowQueue
    serveDue := if s.dishes[d].motion = .stowQueued ∧ s.stowQueue.head? = some d then true else s.serveDue } := by
  split
  case isTrue h =>
    rw [leaveQueue_eq]
    simp only [h, true_and]
  case isFalse h =>
    simp only [h, if_false, false_and]

theorem raise_port_eq {s t : State} (c : Cond) (items : List Nat) (h : t.port = s.port) : (raise c items t).port = (raise c items s).port := by
  unfold raise State.modPort
  rw [h]

theorem goCut_eq {d : DishNo} {s : State} (why : CutReason) (post : Bool) (h : s.dishes[d].motion ≠ .cut) :
    goCut d why post s = { s with
      dishes := s.dishes.set d (s.dishes[d].cutFor why)
      drive := s.drive.set d (s.drive[d].withKind .stop)
      stowMoves := s.stowMoves.set d none
      stowQueue := if s.dishes[d].motion = .stowQueued then s.stowQueue.filter (fun e => e ≠ d) else s.stowQueue
      serveDue := if s.dishes[d].motion = .stowQueued ∧ s.stowQueue.head? = some d then true else s.serveDue
      port := (raise .dishCut [d.val] s).port
      bus := if post = true then (postMotion d .cut s).bus else s.bus } := by
  have raised (u : State) (hp : u.port = s.port) : raise .dishCut [d.val] u = { u with port := (raise .dishCut [d.val] s).port } := by
    rw [← raise_port_eq _ _ hp]
    rfl
  unfold goCut
  dsimp only
  rw [if_neg h, leaveIfQueued_eq]
  generalize hq : (if s.dishes[d].motion = .stowQueued then s.stowQueue.filter (fun e => e ≠ d) else s.stowQueue) = q
  generalize hd : (if s.dishes[d].motion = .stowQueued ∧ s.stowQueue.head? = some d then true else s.serveDue) = due
  rw [raised]
  · cases post with
    | false => rfl
    | true =>
      rw [if_pos rfl, if_pos rfl, postMotion_touches, postMotion_bus (s := s) d .cut]
      · rfl
      · rfl
  · rfl

theorem goUnreachable_eq (d : DishNo) (s : State) : goUnreachable d s = { s with
    dishes := s.dishes.set d
      { s.dishes[d] with
        motion := .unreachable, returnMark := false, group := none, targets := none, cutReason := none, quiet := none
        quietStopped := false }
    drive := s.drive.set d (s.drive[d].withKind .retained)
    stowMoves := s.stowMoves.set d none
    stowQueue := if s.dishes[d].motion = .stowQueued then s.stowQueue.filter (fun e => e ≠ d) else s.stowQueue
    serveDue := if s.dishes[d].motion = .stowQueued ∧ s.stowQueue.head? = some d then true else s.serveDue } := by
  unfold goUnreachable
  dsimp only
  rw [leaveIfQueued_eq]
  rfl

/-! ### Expiries (R14, R51, R105, R120, R130) -/

theorem memberOverdue_of {d : DishNo} {s : State} {g : GroupNo} {m : Member} {t : Nat} (hd : s.dishes[d].motion = .member)
    (hm : s.memberOf d = some (g, m)) (hs : m.sub = .moving) (ht : m.deadline = some t) (late : t ≤ s.siteTime) :
    memberOverdue s d = true := by
  unfold memberOverdue
  rw [hd, hm]
  dsimp only
  rw [hs, ht]
  exact decide_eq_true late

theorem stowOverdue_of {d : DishNo} {s : State} {m : StowMove} {t : Nat} (hd : s.dishes[d].motion = .stowing)
    (hm : s.stowMoves[d] = some m) (ht : m.deadline = some t) (late : t ≤ s.siteTime) : stowOverdue s d = true := by
  unfold stowOverdue
  rw [hd, hm]
  dsimp only
  rw [ht]
  exact decide_eq_true late

theorem quietEnded_iff (s : State) (d : DishNo) : quietEnded s d = true ↔
    s.dishes[d].motion = .cut ∧ s.dishes[d].quiet = some 0 ∧ s.dishes[d].quietStopped = false := by
  unfold quietEnded
  rw [Bool.and_eq_true, Bool.and_eq_true, beq_iff_eq, beq_iff_eq, Bool.not_eq_true', and_assoc]

theorem lingerOver_iff (s : State) : lingerOver s = true ↔ s.meltWeather.on = true ∧ s.meltWeather.linger = some 0 := by
  unfold lingerOver
  rw [Bool.and_eq_true, beq_iff_eq]

theorem cutDish_of_member {d : DishNo} {s : State} {g : GroupNo} {m : Member} (why : CutReason) (post : Bool)
    (h : s.memberOf d = some (g, m)) : cutDish d why post s = removeMember g d why.removal (goCut d why post) s := by
  unfold cutDish; rw [h]

theorem cutDish_of_unlisted {d : DishNo} {s : State} (why : CutReason) (post : Bool) (h : s.memberOf d = none) :
    cutDish d why post s = goCut d why post s := by
  unfold cutDish; rw [h]

/-- Settles O35. -/
theorem expiriesActWhenTheirTimeHasCome : Obligations.ExpiriesActWhenTheirTimeHasCome := by
  unfold Obligations.ExpiriesActWhenTheirTimeHasCome
  have member (d : DishNo) (s : State) : exec (.memberDeadlineExpiry d) s =
      .next (if memberOverdue s d then serveIfDue (cutDish d .overrun true s) else s) := rfl
  have stow (d : DishNo) (s : State) : exec (.stowDeadlineExpiry d) s =
      .next (if stowOverdue s d then serveIfDue (cutDish d .overrun true s) else s) := rfl
  have quiet (d : DishNo) (s : State) : exec (.quietTimeEnd d) s = .next (if quietEnded s d then serveIfDue (endQuiet d s) else s) := rfl
  have hold (c : CellNo) (s : State) : exec (.holdDownExpiry c) s =
      .next (if holdDownOver s c then serveIfDue (judgeCell c (s.modCell c Cell.endHold)) else s) := rfl
  have linger (s : State) : exec .lingerExpiry s =
      .next (if lingerOver s then s.modWeather (fun w => { w with on := false, linger := none }) else s) := rfl
  refine ⟨fun d s => ⟨fun g m t hd hm hs ht late => ?_, fun early => ?_, fun m t hd hu hm ht late => ?_, fun early => ?_⟩,
    fun d why post s => ⟨fun h => goCut_of_cut d why post s h, fun h => goCut_eq why post h⟩, fun s => ⟨fun d => ?_, fun c => ?_, ?_⟩⟩
  · rw [member, if_pos (memberOverdue_of hd hm hs ht late), cutDish_of_member _ _ hm]; rfl
  · rw [member, early]; rfl
  · rw [stow, if_pos (stowOverdue_of hd hm ht late), cutDish_of_unlisted _ _ hu]
  · rw [stow, early]; rfl
  · rw [quiet]
    simp only [quietEnded_iff]
    rfl
  · rw [hold]
    simp only [holdDownOver, beq_iff_eq]
    rfl
  · rw [linger]
    simp only [lingerOver_iff]
    rfl

end Machine
end Sys2Proof
end

section
/-! PROOFS. Groups judged and members removed, as whole states (for O18), and the handling of a reply by the dish's motion state (O34). -/

namespace Sys2Proof
namespace Machine

/-! ### Group records (R38, R53) -/

theorem modGroup_some {s : State} {g : GroupNo} {gr : Group} (f : Group → Group) (h : s.groups[g] = some gr) :
    s.modGroup g f = s.setGroup g (some (f gr)) := by
  rw [modGroup_eq_setGroup, h]; rfl

theorem setGroup_self {s : State} {g : GroupNo} {gr : Group} (h : s.groups[g] = some gr) : s.setGroup g (some gr) = s := by
  unfold State.setGroup
  rw [← h, set_getElem_self]

theorem modMember_eq {s : State} {g : GroupNo} {gr : Group} (d : DishNo) (f : Member → Member) (h : s.groups[g] = some gr) :
    modMember g d f s = { s with groups := s.groups.set g (some
      { gr with members := gr.members.map (fun m => if m.dish = d then f m else m) }) } :=
  modGroup_some _ h

theorem removeMember_eq {s : State} {g : GroupNo} {gr : Group} (d : DishNo) (why : RemovalReason) (transition : State → State)
    (h : s.groups[g] = some gr) : removeMember g d why transition s = judgeGroup g (transition { s with
      groups := s.groups.set g (some
        { gr with
          members := gr.members.filter (fun m => m.dish ≠ d)
          removals := gr.removals.filter (fun e => e.1 ≠ d) ++ [(d, why)] })
      dishes := s.dishes.set d { s.dishes[d] with group := none } }) := by
  unfold removeMember
  rw [modGroup_some _ h]
  rfl

theorem atRest_iff (gr : Group) : gr.atRest = true ↔ ∀ m ∈ gr.members, m.sub ≠ .moving := by
  unfold Group.atRest
  simp only [List.all_eq_true, decide_eq_true_eq]

theorem judged_moving {gr : Group} (rest : gr.atRest = true) (h : gr.state = .moving) :
    gr.judged = { gr with state := if gr.removals = [] then .arrived else .partially } := by
  unfold Group.judged
  rw [rest, h]
  simp only [Bool.not_true, Bool.false_eq_true, if_false, List.isEmpty_iff]

theorem judged_halting {gr : Group} (rest : gr.atRest = true) (h : gr.state = .halting) :
    gr.judged = { gr with state := .halted, members := gr.members.map (fun m => { m with sub := .waiting }) } := by
  unfold Group.judged
  rw [rest, h]
  rfl

theorem judged_other {gr : Group} (h : gr.atRest = true → gr.state ≠ .moving ∧ gr.state ≠ .halting) : gr.judged = gr := by
  unfold Group.judged
  split
  · rfl
  case isFalse rest =>
    obtain ⟨moving, halting⟩ := h (by simpa using rest)
    split
    · exact absurd ‹_› moving
    · exact absurd ‹_› halting
    · rfl

theorem judgeGroup_ended {s : State} {g : GroupNo} {gr : Group} (h : s.groups[g] = some gr) (ended : gr.judged.state ≠ gr.state) :
    judgeGroup g s = raise .groupEnded [g.val] (s.setGroup g (some gr.judged)) := by
  unfold judgeGroup
  rw [h]
  exact if_neg ended

theorem judgeGroup_same_state {s : State} {g : GroupNo} {gr : Group} (h : s.groups[g] = some gr) (same : gr.judged = gr) : judgeGroup g s = s := by
  unfold judgeGroup
  rw [h]
  dsimp only
  rw [same, if_pos rfl, setGroup_self h]

/-- R53: the judgement of a group, whole. -/
theorem judgeGroup_eq {s : State} {g : GroupNo} {gr : Group} (h : s.groups[g] = some gr) :
    judgeGroup g s =
      if (∀ m ∈ gr.members, m.sub ≠ .moving) ∧ gr.state = .moving then
        raise .groupEnded [g.val] { s with
          groups := s.groups.set g (some { gr with state := if gr.removals = [] then .arrived else .partially }) }
      else if (∀ m ∈ gr.members, m.sub ≠ .moving) ∧ gr.state = .halting then
        raise .groupEnded [g.val] { s with
          groups := s.groups.set g (some
            { gr with state := .halted, members := gr.members.map (fun m => { m with sub := .waiting }) }) }
      else s := by
  simp only [← atRest_iff]
  by_cases moving : gr.atRest = true ∧ gr.state = .moving
  · have judged := judged_moving moving.1 moving.2
    rw [if_pos moving, judgeGroup_ended h, judged]
    · rfl
    · rw [judged, moving.2]
      dsimp only
      split <;> nofun
  by_cases halting : gr.atRest = true ∧ gr.state = .halting
  · have judged := judged_halting halting.1 halting.2
    rw [if_neg moving, if_pos halting, judgeGroup_ended h, judged]
    · rfl
    · rw [judged, halting.2]; nofun
  · rw [if_neg moving, if_neg halting]
    exact judgeGroup_same_state h (judged_other fun rest => ⟨fun e => moving ⟨rest, e⟩, fun e => halting ⟨rest, e⟩⟩)

/-! ### A reply by the motion state (R12, R14, R18, R48 to R52, R119) -/

/-- What the motion states make of a reply that does not cut. -/
def heardReply (d : DishNo) (o : Observed) (took isReturn : Bool) (s : State) : MotionState → State
  | .stopping => stoppingReply d o s
  | .member => memberReply d o took s
  | .stowing => stowingReply d o took s
  | .unreachable => if isReturn then returnReply d o s else s
  | .cut => cutReply d o s
  | _ => s

section
variable (d : DishNo) (r : Reply) (took isReturn : Bool) (s : State)

/-- R3: a reply that does not cut is handled by the dish's motion state. -/
theorem watchedReply_heard {m : MotionState} (hm : s.dishes[d].motion = m) (h : r.refused = false ∨ m.refusalCuts = false) :
    watchedReply d r took isReturn s = heardReply d r.observed took isReturn s m := by
  have heard : (r.refused && s.dishes[d].motion.refusalCuts) = false := by
    rw [hm, Bool.and_eq_false_iff]; exact h
  unfold watchedReply
  rw [heard, hm]
  cases m <;> rfl

theorem refusalCuts_iff (m : MotionState) : m.refusalCuts = true ↔
    m = .free ∨ m = .member ∨ m = .stopping ∨ m = .locked ∨ m = .stowQueued ∨ m = .stowing ∨ m = .stowed := by
  cases m <;> decide

theorem watchedReply_refused (hr : r.refused = true) (hm : s.dishes[d].motion.refusalCuts = true) :
    watchedReply d r took isReturn s = refusedReply d r.observed s := by
  unfold watchedReply
  rw [hr, hm]
  rfl

end

theorem startQuiet_eq (d : DishNo) (s : State) : startQuiet d s = releaseDrive d { s with
    dishes := s.dishes.set d { s.dishes[d] with quiet := some 2000, quietStopped := false } } := rfl

theorem refusedReply_eq (d : DishNo) (o : Observed) (s : State) : refusedReply d o s =
    if o.azState = .still ∧ o.elState = .still then startQuiet d (cutDish d .driveRefused false s) else cutDish d .driveRefused false s := by
  unfold refusedReply
  simp only [bothStill_iff]

/-- R18: a dish that moves as it returns is stopped under a return mark. -/
theorem returnReply_moving {d : DishNo} {o : Observed} {s : State} (hm : s.dishes[d].motion = .unreachable) (h : o.anyMoving = true) :
    returnReply d o s = { s with
      dishes := s.dishes.set d { s.dishes[d] with motion := .stopping, group := none, returnMark := true }
      drive := s.drive.set d (s.drive[d].withKind .stop)
      stowMoves := s.stowMoves.set d none
      bus := (postMotion d .hold s).bus } := by
  unfold returnReply
  rw [if_pos h, goStopping_of_moving false (by rw [hm]; nofun), goStopping_dishes]
  unfold State.modDish
  dsimp only
  rw [getElem_set_same, Vector.set_set]
  rfl

theorem returnReply_resting {d : DishNo} {o : Observed} {s : State} (h : ¬ o.anyMoving = true) :
    returnReply d o s = releaseDrive d (setMotion d .restrained s) := by
  unfold returnReply
  rw [if_neg h]

/-- R14: the quiet time after a reply, case by case. -/
theorem nextQuiet_eq (o : Observed) (q : Nat) (stopped : Bool) : nextQuiet o q stopped =
    (if o.azState = .fault ∨ o.elState = .fault then (if o.azState = .moving ∨ o.elState = .moving then 2000 else q)
      else if stopped = true ∨ o.azState = .moving ∨ o.elState = .moving then 2000 else q,
     decide (o.azState = .fault ∨ o.elState = .fault)) := by
  unfold nextQuiet
  simp only [Bool.or_eq_true, anyFault_iff, anyMoving_iff]
  split_ifs with fault <;> simp [fault, Config.quietTime]

theorem cutReply_some {d : DishNo} {o : Observed} {s : State} {q : Nat} (h : s.dishes[d].quiet = some q) :
    cutReply d o s = s.modDish d fun r =>
      { r with quiet := some (nextQuiet o q r.quietStopped).1, quietStopped := (nextQuiet o q r.quietStopped).2 } := by
  unfold cutReply
  rw [h]

theorem cutReply_none {d : DishNo} {o : Observed} {s : State} (h : s.dishes[d].quiet = none) :
    cutReply d o s = if o.bothStill = true then startQuiet d s else s := by
  unfold cutReply
  rw [h]

theorem stoppingReply_eq (d : DishNo) (o : Observed) (s : State) : stoppingReply d o s =
    if o.azState = .still ∧ o.elState = .still then stopEnded d s
    else if o.azState = .fault ∨ o.elState = .fault then cutDish d .driveFault true s else s := by
  unfold stoppingReply
  simp only [bothStill_iff, anyFault_iff]

theorem stopEnded_marked {d : DishNo} {s : State} (h : s.dishes[d].returnMark = true) :
    stopEnded d s = setMotion d .restrained (releaseDrive d s) := by
  unfold stopEnded
  dsimp only
  rw [if_pos h]

theorem stopEnded_unmarked {d : DishNo} {s : State} (h : s.dishes[d].returnMark = false) : stopEnded d s =
    match s.dishes[d].group with
    | some g => judgeGroup g (modMember g d (fun m => { m with sub := .waiting }) (setMotion d .member (releaseDrive d s)))
    | none => settle d (releaseDrive d s) := by
  unfold stopEnded
  dsimp only
  rw [if_neg (by rw [h]; exact Bool.false_ne_true)] <;> rfl

/-- R48: a reply to a member with an entry. -/
theorem memberReply_eq {d : DishNo} {o : Observed} {took : Bool} {s : State} {g : GroupNo} {m : Member} (h : s.memberOf d = some (g, m)) :
    memberReply d o took s =
      if o.anyFault = true then cutDish d .driveFault true s
      else
        match memberJudged o took m with
        | none => s
        | some t => if onTarget s.settings.arrivalWindow o t = true then memberArrives g d s else cutDish d .falseArrival true s := by
  unfold memberReply
  rw [h] <;> rfl

theorem not_fault_of_arrived {o : Observed} (h : o.azState = .arrived ∧ o.elState = .arrived) : ¬ o.anyFault = true := by
  rw [anyFault_iff, h.1, h.2]
  rintro (e | e) <;> cases e

theorem memberReply_arrived {d : DishNo} {o : Observed} {s : State} {g : GroupNo} {m : Member} {tg : Angles}
    (hm : s.memberOf d = some (g, m)) (hs : m.sub = .moving) (start : m.start.isSome = true) (deadline : m.deadline.isSome = true)
    (targets : m.targets = some tg) (arrived : o.azState = .arrived ∧ o.elState = .arrived) : memberReply d o false s =
      if (o.position.az - tg.az).natAbs ≤ s.settings.arrivalWindow ∧ (o.position.el - tg.el).natAbs ≤ s.settings.arrivalWindow then
        memberArrives g d s
      else removeMember g d .falseArrival (goCut d .falseArrival true) s := by
  rw [memberReply_eq hm, if_neg (not_fault_of_arrived arrived),
    (memberJudged_iff o false m tg).mpr ⟨hs, start, deadline, rfl, arrived, targets⟩]
  dsimp only
  rw [cutDish_of_member _ _ hm]
  simp only [onTarget_iff]
  rfl

theorem memberReply_ignored {d : DishNo} {o : Observed} {took : Bool} {s : State} {g : GroupNo} {m : Member}
    (hm : s.memberOf d = some (g, m)) (fault : ¬ (o.azState = .fault ∨ o.elState = .fault))
    (h : m.sub ≠ .moving ∨ m.start = none ∨ m.deadline = none ∨ m.targets = none ∨ took = true ∨
      ¬ (o.azState = .arrived ∧ o.elState = .arrived)) : memberReply d o took s = s := by
  have unjudged : memberJudged o took m = none := by
    rw [Option.eq_none_iff_forall_ne_some]
    intro tg hj
    obtain ⟨sub, start, deadline, hot, arrived, targets⟩ := (memberJudged_iff o took m tg).mp hj
    rcases h with h | h | h | h | h | h
    · exact h sub
    · rw [h] at start; cases start
    · rw [h] at deadline; cases deadline
    · rw [h] at targets; cases targets
    · rw [h] at hot; cases hot
    · exact h arrived
  rw [memberReply_eq hm, if_neg (mt (anyFault_iff o).mp fault), unjudged]

theorem stowingReply_eq (d : DishNo) (o : Observed) (took : Bool) (s : State) : stowingReply d o took s =
    if o.azState = .fault ∨ o.elState = .fault then cutDish d .driveFault true s
    else if stowJudged o took s.stowMoves[d] = true then
      if (o.position.el - s.dishes[d].desc.stowEl).natAbs ≤ s.settings.arrivalWindow then stowArrives d s else cutDish d .falseArrival true s
    else s := by
  unfold stowingReply
  simp only [anyFault_iff, atStow_iff]

/-- A dish's stow demand follows its cell and the cells. -/
theorem stowDemand_congr {s t : State} {d : DishNo} (cells : t.cells = s.cells) (cell : t.dishes[d].desc.cell = s.dishes[d].desc.cell) :
    t.stowDemand d = s.stowDemand d := by
  unfold State.stowDemand
  simp only [cells, cell]

theorem stowArrives_eq (d : DishNo) (s : State) : stowArrives d s =
    let s1 := releaseDrive d { s with
      dishes := s.dishes.set d { s.dishes[d] with motion := .stowed }, stowMoves := s.stowMoves.set d none }
    if s.cells[s.dishes[d].desc.cell].state = .stow then s1 else settle d s1 := by
  have demand : (releaseDrive d ((setMotion d .stowed s).setStowMove d none)).stowDemand d = true ↔
      s.cells[s.dishes[d].desc.cell].state = .stow := by
    rw [stowDemand_congr (s := s)]
    · exact beq_iff_eq
    · rw [releaseDrive_eq]; rfl
    · rw [releaseDrive_eq]
      exact (congrArg (fun r : DishRecord => r.desc.cell) (State.modDish_same s d fun r => { r with motion := .stowed }) :)
  unfold stowArrives
  simp only [demand]
  rfl

/-! ### What a cut leaves (R13) -/

theorem goCut_motion (d : DishNo) (why : CutReason) (post : Bool) (s : State) : (goCut d why post s).dishes[d].motion = .cut := by
  by_cases h : s.dishes[d].motion = .cut
  · rw [goCut_of_cut d why post s h]; exact h
  · rw [goCut_eq why post h]
    dsimp only
    rw [getElem_set_same]
    rfl

theorem goCut_unposted_bus (d : DishNo) (why : CutReason) (s : State) : (goCut d why false s).bus = s.bus := by
  by_cases h : s.dishes[d].motion = .cut
  · rw [goCut_of_cut d why false s h]
  · rw [goCut_eq why false h]; rfl

theorem cutDish_motion (d : DishNo) (why : CutReason) (post : Bool) (s : State) : (cutDish d why post s).dishes[d].motion = .cut := by
  unfold cutDish
  split
  · unfold removeMember
    rw [judgeGroup_touches]
    exact goCut_motion d why post _
  · exact goCut_motion d why post s

theorem cutDish_unposted_bus (d : DishNo) (why : CutReason) (s : State) : (cutDish d why false s).bus = s.bus := by
  unfold cutDish
  split
  · unfold removeMember
    rw [judgeGroup_touches]
    exact goCut_unposted_bus d why _
  · exact goCut_unposted_bus d why s

theorem refusedReply_cut (d : DishNo) (o : Observed) (s : State) :
    (refusedReply d o s).dishes[d].motion = .cut ∧ (refusedReply d o s).bus = s.bus := by
  have cut := cutDish_motion d .driveRefused false s
  have bus := cutDish_unposted_bus d .driveRefused s
  rw [refusedReply_eq]
  split
  · rw [startQuiet_eq, releaseDrive_eq]
    dsimp only
    rw [getElem_set_same]
    exact ⟨cut, bus⟩
  · exact ⟨cut, bus⟩

/-! ### The statement, motion state by motion state -/

/-- Settles O34. -/
theorem replyIsHandledByMotionState : Obligations.ReplyIsHandledByMotionState := by
  unfold Obligations.ReplyIsHandledByMotionState
  refine ⟨fun d r took isReturn s => ?_, fun d r took isReturn s => ?_, fun d why post s => ?_, releaseDrive_eq, fun _ _ _ => rfl, fun d s => ?_,
    fun g d f gr s h => modMember_eq d f h⟩
  · have heard {m : MotionState} (hm : s.dishes[d].motion = m) (h : r.refused = false ∨ m.refusalCuts = false) :=
      watchedReply_heard d r took isReturn s hm h
    have moves := anyMoving_iff r.observed
    have stays := bothStill_iff r.observed
    refine ⟨fun hm hr hn => ?_, fun hm hr hn => ?_, fun hm hr => ?_, fun hm hq hn => ?_, fun hm hq hn => ?_, fun q hm hq => ?_,
      fun hr hm hn hf => ?_, fun hr hm hn hk => ?_, fun hr hm hn hk hg => ?_, fun hr hm hn hf => ?_,
      fun g m tg hr hm he hs h1 h2 h3 ht ha => ?_, fun m st hr hm he hs ht ha => ?_, fun hm => heard hm (.inr rfl), fun hr hm => ?_⟩
    · rw [heard hm (.inr rfl), hr]
      exact returnReply_resting (mt moves.mp hn)
    · rw [heard hm (.inr rfl), hr]
      exact returnReply_moving hm (moves.mpr hn)
    · rw [heard hm (.inr rfl), hr]; rfl
    · rw [heard hm (.inr rfl)]
      exact (cutReply_none hq).trans (if_neg (mt stays.mp hn))
    · rw [heard hm (.inr rfl)]
      exact (cutReply_none hq).trans (if_pos (stays.mpr hn))
    · rw [heard hm (.inr rfl)]
      unfold heardReply
      rw [cutReply_some hq]
      simp only [nextQuiet_eq]
    · rw [heard hm (.inl hr)]
      unfold heardReply
      rw [stoppingReply_eq, if_neg hn, if_pos hf]
    · rw [heard hm (.inl hr)]
      unfold heardReply
      rw [stoppingReply_eq, if_pos hn, stopEnded_marked hk]
    · rw [heard hm (.inl hr)]
      unfold heardReply
      rw [stoppingReply_eq, if_pos hn, stopEnded_unmarked hk, hg]
    · rw [heard hm (.inl hr)]
      unfold heardReply
      rw [stoppingReply_eq, if_neg hn, if_neg hf]
    · rw [heard hm (.inl hr), ht]
      exact memberReply_arrived he hs h1 h2 h3 ha
    · have judged : stowJudged r.observed took s.stowMoves[d] = true :=
        (stowJudged_iff _ _ _).mpr ⟨ht, ha, m, he, by rw [hs]; rfl⟩
      rw [heard hm (.inl hr)]
      unfold heardReply
      rw [stowingReply_eq, if_neg (mt (anyFault_iff _).mpr (not_fault_of_arrived ha)), if_pos judged]
    · have cuts : s.dishes[d].motion.refusalCuts = true := by
        rw [refusalCuts_iff]; rcases hm with h | h | h <;> rw [h] <;> decide
      obtain ⟨cut, bus⟩ := refusedReply_cut d r.observed s
      rw [watchedReply_refused d r took isReturn s hr cuts]
      exact ⟨cut, by rw [bus]⟩
  · have heard {m : MotionState} (hm : s.dishes[d].motion = m) (h : r.refused = false) := watchedReply_heard d r took isReturn s hm (.inl h)
    refine ⟨fun hr hc => ?_, fun g hr hm hn hk hg => ?_, fun g m hr hm he hf => ?_, fun g m hr hm he hf h => ?_, fun hr hm hf => ?_,
      fun hr hm hf h => ?_, fun hr hm => ?_⟩
    · rw [watchedReply_refused d r took isReturn s hr ((refusalCuts_iff _).mpr hc), refusedReply_eq, startQuiet_eq]
    · rw [heard hm hr]
      unfold heardReply
      rw [stoppingReply_eq, if_pos hn, stopEnded_unmarked hk, hg]
    · rw [heard hm hr]
      unfold heardReply
      rw [memberReply_eq he, if_pos ((anyFault_iff _).mpr hf)]
    · rw [heard hm hr]
      exact memberReply_ignored he hf h
    · rw [heard hm hr]
      unfold heardReply
      rw [stowingReply_eq, if_pos hf]
    · have unjudged : ¬ stowJudged r.observed took s.stowMoves[d] = true := fun hj => by
        obtain ⟨hot, arrived, x, hx, start⟩ := (stowJudged_iff _ _ _).mp hj
        rcases h with h | h | h
        · rw [hx] at h
          have none : x.start = none := h
          rw [none] at start; cases start
        · rw [h] at hot; cases hot
        · exact h arrived
      rw [heard hm hr]
      unfold heardReply
      rw [stowingReply_eq, if_neg hf, if_neg unjudged]
    · rcases hm with h | h | h | h <;> exact heard h hr
  · unfold cutDish
    cases s.memberOf d with
    | none => rfl
    | some gm => cases why <;> rfl
  · exact stowArrives_eq d s

end Machine
end Sys2Proof
end

section
/-! PROOFS. The drive bus: poll rounds and visits (O30), and the transactions that bring no reply (O32). -/

namespace Sys2Proof
namespace Machine

/-! ### One operation on each of a list of entries -/

/-- An operation on one entry that changes what is seen of that entry alone, done for each of a list of entries without repeats. -/
theorem foldl_view {ι σ γ : Type} [DecidableEq ι] {view : ι → σ → γ} {f : ι → σ → σ} {G : ι → γ → γ}
    (other : ∀ d e s, e ≠ d → view e (f d s) = view e s) (same : ∀ d s, view d (f d s) = G d (view d s)) (ds : List ι)
    (nodup : ds.Nodup) (s : σ) (e : ι) :
    view e (ds.foldl (fun t d => f d t) s) = if e ∈ ds then G e (view e s) else view e s := by
  induction ds generalizing s with
  | nil => rfl
  | cons d ds ih =>
    rw [List.nodup_cons] at nodup
    obtain ⟨fresh, nodup⟩ := nodup
    rw [List.foldl_cons, ih nodup]
    by_cases he : e = d
    · subst he
      rw [if_neg fresh, if_pos List.mem_cons_self, same]
    · rw [other d e s he]
      simp only [List.mem_cons, he, false_or]

theorem allDishes_nodup : allDishes.Nodup := List.nodup_finRange 48

theorem modBus_modBus (d : DishNo) (f g : BusRecord → BusRecord) (s : State) : (s.modBus d f).modBus d g = s.modBus d fun b => g (f b) := by
  unfold State.modBus
  dsimp only
  rw [getElem_set_same, Vector.set_set]

theorem link_lost_iff (s : State) (d : DishNo) : s.bus[d].link = .lost ↔ ¬ s.linked d = true := by
  rw [linked_iff]
  cases s.bus[d].link <;> simp

/-! ### Poll rounds (R163) -/

/-- Within a segment dish number and drive address rise together. -/
theorem segDishes_rising (g : SegNo) : (segDishes g).Pairwise fun d e => addrOf d < addrOf e := by
  have rising : (segDishes g).Pairwise (· < ·) := List.Pairwise.filter _ (List.pairwise_lt_finRange 48)
  refine rising.imp_of_mem fun {d e} hd he h => ?_
  have segD := congrArg Fin.val ((mem_segDishes d g).mp hd)
  have segE := congrArg Fin.val ((mem_segDishes e g).mp he)
  have lt : d.val < e.val := h
  unfold segOf at segD segE
  unfold addrOf
  dsimp only at segD segE
  omega

/-- The first of a list in rising order for which something holds is the least. -/
theorem find?_least {α : Type} {f : α → Nat} {p : α → Bool} {l : List α} (rising : l.Pairwise fun a b => f a < f b) (a : α) :
    l.find? p = some a ↔ a ∈ l ∧ p a = true ∧ ∀ b ∈ l, p b = true → f a ≤ f b := by
  induction l with
  | nil => simp
  | cons x xs ih =>
    rw [List.pairwise_cons] at rising
    obtain ⟨least, rising⟩ := rising
    rw [List.find?_cons]
    cases hp : p x with
    | true =>
      simp only [Option.some.injEq]
      constructor
      · rintro rfl
        exact ⟨List.mem_cons_self, hp, fun b hb _ => (List.mem_cons.mp hb).elim (fun e => e ▸ le_rfl) fun hm => (least b hm).le⟩
      · rintro ⟨ha, -, hle⟩
        rcases List.mem_cons.mp ha with e | hm
        · exact e.symm
        · exact absurd (hle x List.mem_cons_self hp) (Nat.not_le.mpr (least a hm))
    | false =>
      rw [ih rising]
      constructor
      · rintro ⟨ha, hpa, hle⟩
        refine ⟨List.mem_cons_of_mem _ ha, hpa, fun b hb hpb => (List.mem_cons.mp hb).elim (fun e => ?_) fun hm => hle b hm hpb⟩
        rw [e, hp] at hpb; cases hpb
      · rintro ⟨ha, hpa, hle⟩
        refine ⟨(List.mem_cons.mp ha).resolve_left fun e => ?_, hpa, fun b hb => hle b (List.mem_cons_of_mem _ hb)⟩
        rw [e, hp] at hpa; cases hpa

theorem toVisit_iff (s : State) (d : DishNo) :
    s.toVisit d = true ↔ s.dishes[d].present = true ∧ (s.bus[d].link = .active ∨ s.bus[d].countdown = some 0) := by
  unfold State.toVisit
  rw [Bool.and_eq_true, Bool.or_eq_true, linked_iff, beq_iff_eq]

theorem visited_iff (s : State) (g : SegNo) (d : DishNo) : (decide (s.engines[g].nextAddr ≤ addrOf d) && s.toVisit d) = true ↔
    s.engines[g].nextAddr ≤ addrOf d ∧ s.dishes[d].present = true ∧ (s.bus[d].link = .active ∨ s.bus[d].countdown = some 0) := by
  rw [Bool.and_eq_true, decide_eq_true_iff, toVisit_iff]

/-- R163: the dish visited next. -/
theorem nextVisit_iff (g : SegNo) (d : DishNo) (s : State) : s.nextVisit g = some d ↔
    s.engines[g].roundStart.isSome = true ∧ segOf d = g ∧
    (s.engines[g].nextAddr ≤ addrOf d ∧ s.dishes[d].present = true ∧ (s.bus[d].link = .active ∨ s.bus[d].countdown = some 0)) ∧
    ∀ e : DishNo, segOf e = g → s.bus[e].inFlight = none ∧
      (s.engines[g].nextAddr ≤ addrOf e ∧ s.dishes[e].present = true ∧ (s.bus[e].link = .active ∨ s.bus[e].countdown = some 0) →
        addrOf d ≤ addrOf e) := by
  unfold State.nextVisit
  split
  case isTrue h =>
    obtain ⟨began, free⟩ := Bool.and_eq_true_iff.mp h
    rw [find?_least (segDishes_rising g)]
    simp only [visited_iff, mem_segDishes]
    have idle := (lineFree_iff s g).mp free
    exact ⟨fun ⟨hd, hv, hle⟩ => ⟨began, hd, hv, fun e he => ⟨idle e he, hle e he⟩⟩,
      fun ⟨_, hd, hv, hle⟩ => ⟨hd, hv, fun e he => (hle e he).2⟩⟩
  case isFalse h =>
    refine iff_of_false nofun fun ⟨began, _, _, hle⟩ => h ?_
    rw [began, (lineFree_iff s g).mpr fun e he => (hle e he).1]
    rfl

/-- R163: nothing is left to visit. -/
theorem nextVisit_none_iff (g : SegNo) (s : State) (idle : ∀ d : DishNo, segOf d = g → s.bus[d].inFlight = none) :
    s.nextVisit g = none ↔ ∀ d : DishNo, segOf d = g →
      ¬ (s.engines[g].roundStart.isSome = true ∧ s.engines[g].nextAddr ≤ addrOf d ∧ s.dishes[d].present = true ∧
        (s.bus[d].link = .active ∨ s.bus[d].countdown = some 0)) := by
  unfold State.nextVisit
  rw [(lineFree_iff s g).mpr idle, Bool.and_true]
  split
  case isTrue began =>
    rw [List.find?_eq_none]
    simp only [visited_iff, mem_segDishes, began, true_and]
  case isFalse began => exact iff_of_true rfl fun _ _ h => began h.1

theorem pollDue_iff (s : State) (g : SegNo) : pollDue s g = true ↔
    s.siteTime % 10 = 0 ∧ s.engines[g].roundStart ≠ some s.siteTime ∧
    ∀ d : DishNo, segOf d = g → s.bus[d].inFlight = none ∧
      ¬ (s.engines[g].roundStart.isSome = true ∧ s.engines[g].nextAddr ≤ addrOf d ∧ s.dishes[d].present = true ∧
        (s.bus[d].link = .active ∨ s.bus[d].countdown = some 0)) := by
  unfold pollDue State.roundOver
  rw [Bool.and_eq_true, Bool.and_eq_true, Bool.and_eq_true, beq_iff_eq, bne_iff_ne, lineFree_iff, Option.isNone_iff_eq_none, and_assoc]
  refine and_congr Iff.rfl (and_congr Iff.rfl ⟨fun ⟨idle, done⟩ d hd => ⟨idle d hd, (nextVisit_none_iff g s idle).mp done d hd⟩, fun h => ?_⟩)
  have idle (d : DishNo) (hd : segOf d = g) := (h d hd).1
  exact ⟨idle, (nextVisit_none_iff g s idle).mpr fun d hd => (h d hd).2⟩

/-- R163: what a round's beginning makes of a dish's bus record. -/
def countedDown (r : DishRecord) (b : BusRecord) : BusRecord :=
  if r.present = true ∧ b.link = .lost then { b with countdown := b.countdown.map (· - 1) } else b

theorem countDown_eq (d : DishNo) (s : State) : countDown d s = s.modBus d (countedDown s.dishes[d]) := by
  have counts : (s.dishes[d].present && !s.linked d) = true ↔ s.dishes[d].present = true ∧ s.bus[d].link = .lost := by
    rw [Bool.and_eq_true, Bool.not_eq_true', ← Bool.not_eq_true, link_lost_iff]
  unfold countDown
  simp only [counts]
  split
  case isTrue h =>
    unfold State.modBus countedDown
    rw [if_pos h]
  case isFalse h =>
    unfold State.modBus countedDown
    rw [if_neg h, set_getElem_self]

theorem beginPoll_touches (g : SegNo) (s : State) :
    beginPoll g s = { s with engines := s.engines.set g ⟨some s.siteTime, 0⟩, bus := (beginPoll g s).bus } := by
  have touches (l : List DishNo) (u : State) : l.foldl (fun t d => countDown d t) u =
      { u with bus := (l.foldl (fun t d => countDown d t) u).bus } := by
    induction l generalizing u with
    | nil => rfl
    | cons d l ih => rw [List.foldl_cons, ih, countDown_eq]; rfl
  unfold beginPoll
  rw [touches]
  rfl

theorem beginPoll_bus (g : SegNo) (s : State) (d : DishNo) : (beginPoll g s).bus[d] =
    if segOf d = g ∧ s.dishes[d].present = true ∧ s.bus[d].link = .lost then { s.bus[d] with countdown := s.bus[d].countdown.map (· - 1) }
    else s.bus[d] := by
  have view := foldl_view (view := fun d s => (s.dishes[d], s.bus[d])) (f := countDown) (G := fun _ x => (x.1, countedDown x.1 x.2))
    (fun d e u he => by
      rw [countDown_eq]
      exact congrArg (Prod.mk _) (State.modBus_other u d e _ he))
    (fun d u => by
      rw [countDown_eq]
      exact congrArg (Prod.mk _) (State.modBus_same u d _))
    (segDishes g) (allDishes_nodup.filter _) (s.modEngine g fun _ => ⟨some s.siteTime, 0⟩) d
  have bus : (beginPoll g s).bus[d] = if d ∈ segDishes g then countedDown s.dishes[d] s.bus[d] else s.bus[d] :=
    (congrArg Prod.snd view).trans (apply_ite Prod.snd _ _ _)
  rw [bus]
  unfold countedDown
  simp only [mem_segDishes]
  by_cases hd : segOf d = g <;> simp only [hd, if_true, if_false, true_and, false_and]

theorem beginTransaction_eq (d : DishNo) (sent : Sent) (s : State) : beginTransaction d sent s = { s with
    bus := s.bus.set d { s.bus[d] with
      inFlight := some ⟨sent, orderChars (addrOf d) sent (startDelay s.siteTime sent), s.siteTime, false, false, false⟩ }
    engines := s.engines.set (segOf d) { s.engines[segOf d] with nextAddr := addrOf d + 1 } } := rfl

/-- R164: what a visit sends. -/
theorem choice_eq (b : BusRecord) : b.choice =
    if b.fresh = true then .status
    else
      match b.orders, b.heat with
      | o :: _, _ => .motion o
      | [], some on => .heat on
      | [], none => .status := by
  unfold BusRecord.choice
  split
  · rfl
  · cases b.orders with
    | nil => cases b.heat <;> rfl
    | cons o rest => rfl

/-- Settles O30. -/
theorem pollRoundsAndVisits : Obligations.PollRoundsAndVisits := by
  unfold Obligations.PollRoundsAndVisits
  have poll (g : SegNo) (s : State) : exec (.pollRoundStart g) s = .next (if pollDue s g then beginPoll g s else s) := rfl
  have visit (d : DishNo) (s : State) : exec (.visit d) s =
      .next (if s.nextVisit (segOf d) = some d && s.linked d then beginTransaction d s.bus[d].choice s else s) := rfl
  have probe (d : DishNo) (s : State) : exec (.presenceProbe d) s =
      .next (if s.nextVisit (segOf d) = some d && !s.linked d then beginTransaction d .probe s else s) := rfl
  refine ⟨fun g s => ⟨fun early => ?_, fun due => ?_⟩, fun g d s => nextVisit_iff g d s, fun d => ⟨rfl, rfl⟩,
    fun now start az el => ⟨rfl, rfl, rfl, rfl, rfl, rfl, rfl, rfl⟩, fun d s => ⟨fun next active => ?_, fun next lost => ?_, fun idle => ?_,
      fun idle => ?_⟩⟩
  · rw [poll, if_neg (mt (pollDue_iff s g).mp early)]
  · rw [poll, if_pos ((pollDue_iff s g).mpr due)]
    exact ⟨_, rfl, beginPoll_touches g s, beginPoll_bus g s⟩
  · rw [visit, if_pos (by rw [linked_of_active active, decide_eq_true next]; rfl), beginTransaction_eq, choice_eq] <;> rfl
  · rw [probe, if_pos (by rw [not_linked_of_lost lost, decide_eq_true next]; rfl), beginTransaction_eq]
  · rw [visit, if_neg]
    rw [Bool.and_eq_true, decide_eq_true_iff]
    exact fun ⟨next, active⟩ => idle.elim (· next) fun lost => (link_lost_iff s d).mp lost active
  · rw [probe, if_neg]
    rw [Bool.and_eq_true, decide_eq_true_iff, Bool.not_eq_true', ← Bool.not_eq_true]
    exact fun ⟨next, lost⟩ => idle.elim (· next) fun active => lost ((linked_iff s d).mpr active)

/-! ### Transactions without a reply (R172 to R174) -/

section
variable {d : DishNo} {chars : List Char9} {cutShort : Bool} {s : State} {x : InFlight} (hx : s.bus[d].inFlight = some x)
include hx

theorem transactionEnd_orphan (h : x.orphan = true) :
    exec (.transactionEnd d chars cutShort) s = .next (s.modBus d fun b => { b with inFlight := none }) := by
  change execTransactionEnd d chars cutShort s = _
  unfold execTransactionEnd
  rw [hx]
  dsimp only
  rw [if_pos h]

theorem transactionEnd_judged (h : x.orphan = false) : exec (.transactionEnd d chars cutShort) s =
    .next (endTransaction d x (judgeTransaction (addrOf d) x.sent chars cutShort) (s.modBus d fun b => { b with inFlight := none })) := by
  change execTransactionEnd d chars cutShort s = _
  unfold execTransactionEnd
  rw [hx]
  dsimp only
  rw [if_neg (by rw [h]; exact Bool.false_ne_true)]

end

/-- R173: the fifth failure in a row. -/
theorem failedOrder_eq (d : DishNo) (stage : Stage) (s : State) : failedOrder d stage s =
    if 4 ≤ s.bus[d].failures then
      serveIfDue (raise .dishLost [d.val] (loseDish d (s.modBus d fun b =>
        { b with lastStage := some stage, failures := b.failures + 1, link := .lost, fresh := false, orders := [], heat := none
                 countdown := some 20 })))
    else s.modBus d fun b => { b with failures := b.failures + 1, lastStage := some stage } := by
  have last : (Config.lossFailures ≤ (s.modBus d fun b => { b with failures := b.failures + 1, lastStage := some stage }).bus[d].failures) =
      (4 ≤ s.bus[d].failures) := by
    rw [State.modBus_same]
    exact propext Nat.succ_le_succ_iff
  unfold failedOrder loseLink
  dsimp only
  simp only [last]
  rw [modBus_modBus]
  rfl

theorem loseDish_eq (d : DishNo) (s : State) : loseDish d s =
    if s.dishes[d].present = false ∨ s.dishes[d].motion = .unreachable then s
    else
      match s.memberOf d with
      | some (g, _) => removeMember g d .lost (goUnreachable d) s
      | none => goUnreachable d s := by
  unfold loseDish
  simp only [Bool.or_eq_true, Bool.not_eq_true', decide_eq_true_eq] <;> rfl

/-- Settles O32. -/
theorem failedAndProbeTransactions : Obligations.FailedAndProbeTransactions := by
  unfold Obligations.FailedAndProbeTransactions
  refine ⟨fun d chars cutShort s => ⟨fun none => ?_, fun x hx => ?_⟩, loseDish_eq, goUnreachable_eq⟩
  · change execTransactionEnd d chars cutShort s = _
    unfold execTransactionEnd
    rw [none]
  · refine ⟨transactionEnd_orphan hx, fun stage whole failed probe => ?_, fun stage whole failed order few => ?_,
      fun stage whole failed order many => ?_, fun whole good => ?_⟩
    all_goals rw [transactionEnd_judged hx whole]
    · rw [failed]
      unfold endTransaction failedProbe
      dsimp only
      rw [if_pos probe, modBus_modBus]
      rfl
    · rw [failed]
      unfold endTransaction
      dsimp only
      rw [if_neg order, failedOrder_eq, State.modBus_same, if_neg (Nat.not_le.mpr few), modBus_modBus]
      rfl
    · rw [failed]
      unfold endTransaction
      dsimp only
      rw [if_neg order, failedOrder_eq, State.modBus_same, if_pos many, modBus_modBus]
      rfl
    · rw [good]
      unfold endTransaction acknowledged
      dsimp only
      rw [modBus_modBus]
      rfl

end Machine
end Sys2Proof
end

section
/-! PROOFS. The requests to the dish table: DESCRIBE DISH (O10), RESUME DISH and WRITE OFF DISH (O11), RESTRAIN DISH (O12). -/

namespace Sys2Proof
namespace Machine

/-! ### A run reads the state as it stood, its port apart -/

theorem begun_port (r : Request) (s : State) : ∃ p, s.begun r = { s with port := p } := ⟨_, begun_touches r s⟩

/-! ### DESCRIBE DISH (R2) -/

theorem describeWish_none_iff (a : DescribeArgs) : describeWish a = some none ↔ a.present = 0 ∧ a.fields = none := by
  unfold describeWish
  split
  case h_1 present fields => exact iff_of_true rfl ⟨present, fields⟩
  case h_2 present fields => exact iff_of_false (fun h => by simp at h) fun h => by rw [h.1] at present; cases present
  case h_3 other _ => exact iff_of_false nofun fun h => other h.1 h.2

theorem describeWish_some_iff {a : DescribeArgs} {f : DescribeFields} (hf : a.fields = some f) (desc : Description) :
    describeWish a = some (some desc) ↔ a.present = 1 ∧ checkDescription f = some desc := by
  unfold describeWish
  rw [hf]
  split
  case h_1 h => cases h
  case h_2 present fields =>
    cases fields
    simp [present]
  case h_3 other => exact iff_of_false nofun fun h => other _ h.1 rfl

theorem asFin_some_iff {n k : Nat} (i : Fin n) : asFin n k = some i ↔ i.val = k := by
  unfold asFin
  split
  case isTrue h => simp [Fin.ext_iff, eq_comm]
  case isFalse h => exact iff_of_false nofun fun e => h (e ▸ i.isLt)

theorem checkDescription_iff (f : DescribeFields) (desc : Description) : checkDescription f = some desc ↔
    (f.cell ≤ 7 ∧ f.zone ≤ 3) ∧ (-270000 ≤ f.azLower ∧ f.azLower < f.azUpper ∧ f.azUpper ≤ 270000) ∧
    (5000 ≤ f.elLower ∧ f.elLower < f.elUpper ∧ f.elUpper ≤ 90000) ∧
    (1 ≤ f.azVMax ∧ f.azVMax ≤ 3000 ∧ 1 ≤ f.elVMax ∧ f.elVMax ≤ 2000) ∧
    (1 ≤ f.azAMax ∧ f.azAMax ≤ 2000 ∧ 1 ≤ f.elAMax ∧ f.elAMax ≤ 2000) ∧
    (10 ≤ f.pDrive ∧ f.pDrive ≤ 250 ∧ f.pMelt ≤ 150) ∧ (f.elLower ≤ f.stowEl.getD 90000 ∧ f.stowEl.getD 90000 ≤ f.elUpper) ∧
    desc.cell.val = f.cell ∧ desc.zone.val = f.zone ∧ desc.az = ⟨f.azLower, f.azUpper, f.azVMax, f.azAMax⟩ ∧
    desc.el = ⟨f.elLower, f.elUpper, f.elVMax, f.elAMax⟩ ∧ desc.pDrive = f.pDrive ∧ desc.pMelt = f.pMelt ∧
    desc.stowEl = f.stowEl.getD 90000 := by
  unfold checkDescription
  simp only [Option.bind_eq_bind, Option.bind_eq_some_iff, asFin_some_iff]
  constructor
  · rintro ⟨cell, hc, zone, hz, h⟩
    have cellLt := cell.isLt
    have zoneLt := zone.isLt
    split at h
    case isTrue ranges =>
      simp only [Bool.and_eq_true, decide_eq_true_eq, inRange] at ranges
      cases h
      refine ⟨by omega, by omega, by omega, by omega, by omega, by omega, by omega, hc, hz, rfl, rfl, rfl, rfl, rfl⟩
    case isFalse => cases h
  · rintro ⟨⟨hc, hz⟩, az, el, v, acc, power, stow, cell, zone, hAz, hEl, hDrive, hMelt, hStow⟩
    refine ⟨desc.cell, cell, desc.zone, zone, ?_⟩
    rw [if_pos]
    · cases desc
      cases hAz; cases hEl; cases hDrive; cases hMelt; cases hStow
      rfl
    · simp only [Bool.and_eq_true, decide_eq_true_eq, inRange]
      omega

theorem describeAbsent_eq (d : DishNo) (s : State) : describeAbsent d s = { s with
    dishes := s.dishes.set d { s.dishes[d] with present := false, desc := Description.default, observed := none }
    bus := s.bus.set d (stopVisiting s.bus[d])
    circuits := s.circuits.set d { s.circuits[d] with demand := 0, window := none }
    grants := s.grants.set d ⟨0, 0⟩
    serveDue := if s.grants[d].reservation = 0 then s.serveDue else true } := by
  unfold describeAbsent
  dsimp only
  split <;> rfl

/-- Settles O10. -/
theorem describeDishChecksInOrder : Obligations.DescribeDishChecksInOrder := by
  unfold Obligations.DescribeDishChecksInOrder
  refine ⟨?_, fun a desc h => ⟨describeWish_inTable h, ?_⟩, describeWish_none_iff, fun a f desc hf => ?_, describeAbsent_eq⟩
  · intro label params s r ready
    refine (runRequest_ready r (describe (readDescribe params)) s ready).trans (congrArg _ ?_)
    obtain ⟨p, e⟩ := begun_port r s
    unfold State.replied describe
    rw [e]
    rcases asFin 48 (readDescribe params).dish with _ | d
    · rfl
    rcases describeWish (readDescribe params) with _ | _ | desc
    · rfl
    · dsimp only
      split
      · rfl
      · have noTags : (tagsOn { s with port := p } d).isEmpty = true ↔ tagsOn s d = [] := List.isEmpty_iff
        simp only [noTags]
        split <;> rfl
    · dsimp only
      split
      · rfl
      · unfold describePresent
        dsimp only
        split <;> rfl
  · cases hf : a.fields with
    | none => 
      unfold describeWish at h
      rw [hf] at h
      split at h <;> simp_all
    | some f => exact ((describeWish_some_iff hf desc).mp h).1
  · exact (describeWish_some_iff hf desc).trans (and_congr Iff.rfl (checkDescription_iff f desc))

theorem Observed.atRest_iff (o : Observed) : o.atRest = true ↔
    (o.azState = .still ∨ o.azState = .arrived) ∧ (o.elState = .still ∨ o.elState = .arrived) := by
  unfold Observed.atRest AxisState.atRest
  simp only [Bool.and_eq_true, Bool.or_eq_true, beq_iff_eq]

/-! ### RESUME DISH and WRITE OFF DISH (R7, R17) -/

/-- Settles O11. -/
theorem resumeAndWriteOffDish : Obligations.ResumeAndWriteOffDish := by
  unfold Obligations.ResumeAndWriteOffDish
  constructor
  · intro label n s r ready
    refine (runRequest_ready r (resume n.toNat) s ready).trans (congrArg _ ?_)
    obtain ⟨p, e⟩ := begun_port r s
    unfold State.replied resume
    rw [e]
    rcases asFin 48 n.toNat with _ | d
    · rfl
    have lost : (!State.linked { s with port := p } d) = true ↔ s.bus[d].link = .lost := by
      rw [link_lost_iff, Bool.not_eq_true', ← Bool.not_eq_true]; rfl
    simp only [lost, Bool.not_eq_true']
    split
    · rfl
    split
    · rfl
    split
    · rfl
    cases s.dishes[d].observed with
    | none => rfl
    | some o =>
      dsimp only [Option.map_some, Option.getD_some]
      simp only [Observed.atRest_iff]
      split <;> rfl
  · intro label n s r ready quiet
    refine (runRequest_ready r (writeOff n.toNat) s ready).trans (congrArg _ ?_)
    obtain ⟨p, e⟩ := begun_port r s
    unfold State.replied writeOff
    rw [e]
    rcases asFin 48 n.toNat with _ | d
    · rfl
    simp only [Bool.not_eq_true']
    split
    · rfl
    split
    · rfl
    unfold serveIfDue
    rw [releaseDrive_eq]
    dsimp only
    by_cases h : s.drive[d].level = 0
    · simp only [h, if_true, quiet, Bool.false_eq_true, if_false]
      rfl
    · simp only [h, if_false, if_true]
      rfl

/-! ### RESTRAIN DISH (R8) -/

/-- Settles O12. -/
theorem restrainDishTakesAStillDishOutOfUse : Obligations.RestrainDishTakesAStillDishOutOfUse := by
  unfold Obligations.RestrainDishTakesAStillDishOutOfUse
  intro label n s r ready
  have run : exec (.restrainDish label [n]) s = _ := runRequest_ready r (restrain n.toNat) s ready
  obtain ⟨p, e⟩ := begun_port r s
  rw [run]
  unfold State.replied restrain
  rw [e]
  rcases asFin 48 n.toNat with _ | d
  · exact ⟨_, rfl, fun _ => rfl, rfl⟩
  simp only [Bool.not_eq_true']
  by_cases absent : s.dishes[d].present = false
  · simp only [absent, if_true]
    exact ⟨_, rfl, fun _ => rfl, rfl⟩
  simp only [absent]
  have demanded (t : State) (cells : t.cells = s.cells) (dish : t.dishes[d] = { s.dishes[d] with motion := .restrained }) :
      t.blocked d = if s.stowDemand d then some .restrained else none := by
    have demand : t.stowDemand d = s.stowDemand d := stowDemand_congr cells (by rw [dish])
    unfold State.blocked
    rw [demand, dish]
  cases hm : s.dishes[d].motion with
  | free | locked => 
    refine ⟨_, rfl, fun _ => rfl, ?_⟩
    simp only [true_or, or_true, if_true]
    exact ⟨rfl, demanded _ rfl (getElem_set_same s.dishes d _)⟩
  | restrained | member | stopping | stowQueued | stowing | stowed | cut | unreachable =>
    exact ⟨_, rfl, fun _ => rfl, rfl⟩

end Machine
end Sys2Proof
end

section
/-! PROOFS. The requests to the group table: ADD MEMBER (O14), DROP MEMBER and AIM GROUP (O15), START GROUP's checks (O16). -/

namespace Sys2Proof
namespace Machine

/-! ### The checks of the group requests, as the manual reads them -/

theorem Group.underWay_iff (gr : Group) : gr.underWay = true ↔ gr.state = .moving ∨ gr.state = .halting := by
  unfold Group.underWay
  simp only [Bool.or_eq_true, beq_iff_eq]

theorem Group.ended_iff (gr : Group) : gr.ended = true ↔ gr.state = .arrived ∨ gr.state = .partially ∨ gr.state = .halted := by
  unfold Group.ended
  simp only [Bool.or_eq_true, beq_iff_eq, or_assoc]

/-- A group neither MOVING nor HALTING has ended, or it is OPEN. -/
theorem Group.ended_iff_not_opened {gr : Group} (h : ¬ (gr.state = .moving ∨ gr.state = .halting)) : gr.ended = true ↔ gr.state ≠ .opened := by
  rw [Group.ended_iff]
  cases hs : gr.state <;> simp_all

theorem offsetsInRange_iff (o : Option Angles) : offsetsInRange o = true ↔ ∀ x ∈ o, x.az.natAbs ≤ 10000 ∧ x.el.natAbs ≤ 10000 := by
  unfold offsetsInRange
  cases o <;> simp

theorem motionCoverage_iff (c : Coverage) : c.motion = true ↔ c.az = true ∨ c.el = true :=
  (Bool.or_eq_true _ _).to_iff

theorem memberOf_isSome_iff (s : State) (d : DishNo) : (s.memberOf d).isSome = true ↔ ∃ g : GroupNo, d ∈ s.memberDishes g := by
  have listed := not_congr ((memberOf_none_iff s d).trans (unlisted_iff s d))
  simp only [not_forall, not_not] at listed
  rw [← listed, Option.isSome_iff_ne_none]

/-! ### ADD MEMBER (R9, R41) -/

/-- Settles O14. -/
theorem addMemberChecksInOrder : Obligations.AddMemberChecksInOrder := by
  unfold Obligations.AddMemberChecksInOrder
  intro label params s r a ready
  refine (runRequest_ready r (addMember a) s ready).trans (congrArg _ ?_)
  obtain ⟨p, e⟩ := begun_port r s
  unfold State.replied addMember
  rw [e]
  rcases asFin 8 a.group with _ | g
  · rfl
  rcases asFin 48 a.dish with _ | d
  · rfl
  have listed : (State.memberOf { s with port := p } d).isSome = true ↔ ∃ h : GroupNo, d ∈ s.memberDishes h := memberOf_isSome_iff s d
  have covered : (State.coverage { s with port := p } d).motion = true ↔ (s.coverage d).az = true ∨ (s.coverage d).el = true :=
    motionCoverage_iff _
  have icy : State.iced { s with port := p } d = s.circuits[d].iced := rfl
  dsimp only
  simp only [Bool.not_eq_true', ← Bool.not_eq_true, offsetsInRange_iff, Group.underWay_iff, listed, covered, icy]
  split
  · rfl
  cases s.groups[g] with
  | none => rfl
  | some gr =>
    dsimp only
    repeat' split
    all_goals rfl

/-! ### DROP MEMBER and AIM GROUP (R42 to R44) -/

/-- R44: the record an accepted AIM GROUP leaves. -/
theorem reopened_aimed {gr : Group} (h : ¬ (gr.state = .moving ∨ gr.state = .halting)) (target : Angles) :
    { gr.reopened with target := target } =
      if gr.state = .opened then { gr with target := target }
      else
        { gr with
          state := .opened
          target := target
          members := gr.members.map (fun m => { m with sub := .waiting, start := none, deadline := none, arrival := none }) } := by
  unfold Group.reopened
  by_cases opened : gr.state = .opened
  · rw [if_pos opened, if_neg (by rw [Group.ended_iff_not_opened h]; exact fun other => other opened)]
  · rw [if_neg opened, if_pos ((Group.ended_iff_not_opened h).mpr opened)]

/-- Settles O15. -/
theorem dropMemberAndAimGroup : Obligations.DropMemberAndAimGroup := by
  unfold Obligations.DropMemberAndAimGroup
  constructor
  · intro label n k s r ready
    refine (runRequest_ready r (dropMember n.toNat k.toNat) s ready).trans (congrArg _ ?_)
    obtain ⟨p, e⟩ := begun_port r s
    unfold State.replied dropMember
    rw [e]
    rcases asFin 8 n.toNat with _ | g
    · rfl
    rcases asFin 48 k.toNat with _ | d
    · rfl
    dsimp only
    cases hg : s.groups[g] with
    | none => rfl
    | some gr =>
      have listed : gr.members.any (fun m => decide (m.dish = d)) = true ↔ d ∈ s.memberDishes g := by
        rw [memberDishes_some hg, List.any_eq_true, List.mem_map]
        simp only [decide_eq_true_eq]
      dsimp only
      simp only [Bool.not_eq_true', ← Bool.not_eq_true, listed, Group.underWay_iff]
      split
      · rfl
      split
      · rfl
      unfold dropEntry
      exact congrArg (fun u => endRequest r (answered (serveIfDue (settle d u)) .ok)) (modGroup_some (s := { s with port := p }) _ hg)
  · intro label params s r a ready
    refine (runRequest_ready r (aimGroup a) s ready).trans (congrArg _ ?_)
    obtain ⟨p, e⟩ := begun_port r s
    unfold State.replied aimGroup
    rw [e]
    rcases asFin 8 a.group with _ | g
    · rfl
    dsimp only
    simp only [Bool.not_eq_true', ← Bool.not_eq_true, targetInRange_iff]
    split
    · rfl
    cases s.groups[g] with
    | none => rfl
    | some gr =>
      dsimp only
      simp only [Group.underWay_iff]
      split
      · rfl
      case isFalse still =>
        rw [reopened_aimed still]
        rfl

/-! ### START GROUP (R45) -/

theorem startResults_eq (move span : Nat) (stretched : Bool) (ps : List MemberPlan) : startResults move span stretched ps =
    put32 move ++ put32 span ++ putFlag stretched ++
      putList (fun (p : MemberPlan) => put8 p.dish.val) (ps.filter (fun p => p.clamped)) := by
  unfold startResults clampedDishes putList
  rw [List.length_map, List.flatMap_map]

theorem belowWatchFloor_iff (s : State) (ps : List MemberPlan) : belowWatchFloor s ps = true ↔
    ∃ p ∈ ps, s.cells[s.dishes[p.dish].desc.cell].state = .watch ∧ p.target.el < s.settings.watchFloor := by
  unfold belowWatchFloor
  simp only [List.any_eq_true, Bool.and_eq_true, beq_iff_eq, decide_eq_true_eq]

/-- Settles O16. -/
theorem startGroupChecksInOrder : Obligations.StartGroupChecksInOrder := by
  unfold Obligations.StartGroupChecksInOrder
  intro label n s r ready
  refine (runRequest_ready r (startGroup n.toNat) s ready).trans (congrArg _ ?_)
  obtain ⟨p, e⟩ := begun_port r s
  unfold State.replied startGroup
  rw [e]
  rcases asFin 8 n.toNat with _ | g
  · rfl
  dsimp only
  cases s.groups[g] with
  | none => rfl
  | some gr =>
    dsimp only
    by_cases busy : gr.state = .moving ∨ gr.state = .halting
    · rw [if_pos busy, if_pos ((Group.underWay_iff gr).mpr busy)]
      rfl
    rw [if_neg busy, if_neg (mt (Group.underWay_iff gr).mp busy)]
    have unready : (gr.ended || gr.members.isEmpty) = true ↔ gr.state ≠ .opened ∨ gr.members = [] := by
      rw [Bool.or_eq_true, Group.ended_iff_not_opened busy, List.isEmpty_iff]
    have icy : gr.members.any (fun m => State.iced { s with port := p } m.dish) = true ↔ ∃ m ∈ gr.members, s.circuits[m.dish].iced = true :=
      List.any_eq_true
    have queued : (!s.stowQueue.isEmpty) = true ↔ s.stowQueue ≠ [] := by simp
    simp only [unready, icy, queued]
    split
    · rfl
    split
    · rfl
    split
    · rfl
    split
    · rfl
    unfold planStart
    have plan : planGroup { s with port := p } gr = planGroup s gr := rfl
    have watch : belowWatchFloor { s with port := p } (planGroup s gr) = true ↔ _ := belowWatchFloor_iff s (planGroup s gr)
    simp only [plan, startResults_eq, watch]
    split
    · rfl
    split
    · rfl
    have avail : State.pAvail { s with port := p } = s.pAvail := rfl
    simp only [avail]
    cases chooseTime (planGroup s gr) s.pAvail <;> rfl

end Machine
end Sys2Proof
end

section
/-! PROOFS. What the operations on the dishes, the groups and the stow queue never touch: the clocks, the cells, the weather, the feed, the
settings, the tags, the scan, a dish's description and observed status, the link and the counts of its bus record, and all of a circuit but its
windows and its granted duty. -/

namespace Sys2Proof
namespace Machine

/-- What an operation on dishes, groups and the stow queue leaves of a state. -/
structure Steady (s t : State) : Prop where
  siteTime    : t.siteTime = s.siteTime
  arrayClock  : t.arrayClock = s.arrayClock
  feed        : t.feed = s.feed
  scan        : t.scan = s.scan
  cells       : t.cells = s.cells
  siteCode    : t.siteCode = s.siteCode
  detector    : t.detector = s.detector
  meltWeather : t.meltWeather = s.meltWeather
  settings    : t.settings = s.settings
  tags        : t.tags = s.tags
  engines     : t.engines = s.engines
  present     : ∀ d : DishNo, t.dishes[d].present = s.dishes[d].present
  desc        : ∀ d : DishNo, t.dishes[d].desc = s.dishes[d].desc
  observed    : ∀ d : DishNo, t.dishes[d].observed = s.dishes[d].observed
  busy        : ∀ d : DishNo, t.bus[d].inFlight.isSome = s.bus[d].inFlight.isSome
  link        : ∀ d : DishNo, t.bus[d].link = s.bus[d].link
  failures    : ∀ d : DishNo, t.bus[d].failures = s.bus[d].failures
  lastStage   : ∀ d : DishNo, t.bus[d].lastStage = s.bus[d].lastStage
  goodCount   : ∀ d : DishNo, t.bus[d].goodCount = s.bus[d].goodCount
  countdown   : ∀ d : DishNo, t.bus[d].countdown = s.bus[d].countdown
  fresh       : ∀ d : DishNo, t.bus[d].fresh = s.bus[d].fresh
  mode        : ∀ d : DishNo, t.circuits[d].mode = s.circuits[d].mode
  forcedDuty  : ∀ d : DishNo, t.circuits[d].forcedDuty = s.circuits[d].forcedDuty
  demand      : ∀ d : DishNo, t.circuits[d].demand = s.circuits[d].demand
  arrears     : ∀ d : DishNo, t.circuits[d].arrears = s.circuits[d].arrears
  iced        : ∀ d : DishNo, t.circuits[d].iced = s.circuits[d].iced
  rate        : ∀ d : DishNo, t.grants[d].rate = s.grants[d].rate

theorem Steady.refl (s : State) : Steady s s := by constructor <;> (try intro d) <;> rfl

/-- What a state agrees with in all the entries named, it agrees with further on. -/
theorem Steady.trans {s t u : State} (h : Steady s t) (k : Steady t u) : Steady s u where
  siteTime := k.siteTime.trans h.siteTime
  arrayClock := k.arrayClock.trans h.arrayClock
  feed := k.feed.trans h.feed
  scan := k.scan.trans h.scan
  cells := k.cells.trans h.cells
  siteCode := k.siteCode.trans h.siteCode
  detector := k.detector.trans h.detector
  meltWeather := k.meltWeather.trans h.meltWeather
  settings := k.settings.trans h.settings
  tags := k.tags.trans h.tags
  engines := k.engines.trans h.engines
  present d := (k.present d).trans (h.present d)
  desc d := (k.desc d).trans (h.desc d)
  observed d := (k.observed d).trans (h.observed d)
  busy d := (k.busy d).trans (h.busy d)
  link d := (k.link d).trans (h.link d)
  failures d := (k.failures d).trans (h.failures d)
  lastStage d := (k.lastStage d).trans (h.lastStage d)
  goodCount d := (k.goodCount d).trans (h.goodCount d)
  countdown d := (k.countdown d).trans (h.countdown d)
  fresh d := (k.fresh d).trans (h.fresh d)
  mode d := (k.mode d).trans (h.mode d)
  forcedDuty d := (k.forcedDuty d).trans (h.forcedDuty d)
  demand d := (k.demand d).trans (h.demand d)
  arrears d := (k.arrears d).trans (h.arrears d)
  iced d := (k.iced d).trans (h.iced d)
  rate d := (k.rate d).trans (h.rate d)

/-! ### The updates of one piece of state -/

/-- The fields that are not named at all. -/
theorem steady_loose (s : State) (groups : Vector (Option Group) 8) (drive : Vector DriveRes 48) (queue : List DishNo)
    (moves : Vector (Option StowMove) 48) (port : Port) (due : Bool) :
    Steady s { s with
      groups := groups, drive := drive, stowQueue := queue, stowMoves := moves, port := port, serveDue := due } := by
  constructor <;> (try intro d) <;> rfl

/-- What is read of a changed entry, where the change leaves it. -/
theorem read_set {α β : Type} {n : Nat} (read : α → β) (v : Vector α n) (i : Fin n) (a : α) (h : read a = read v[i]) (j : Fin n) :
    read (v.set i a)[j] = read v[j] := by
  by_cases hj : j = i
  · subst hj; rw [getElem_set_same, h]
  · rw [getElem_set_other _ _ _ _ hj]

theorem modDish_steady (d : DishNo) (f : DishRecord → DishRecord) (s : State)
    (h : ∀ r, (f r).present = r.present ∧ (f r).desc = r.desc ∧ (f r).observed = r.observed) : Steady s (s.modDish d f) where
  __ := Steady.refl s
  present := read_set DishRecord.present _ _ _ (h _).1
  desc := read_set DishRecord.desc _ _ _ (h _).2.1
  observed := read_set DishRecord.observed _ _ _ (h _).2.2

/-- A posting leaves all of a bus record but its lists, its slot and the marks of the transaction under way. -/
def BusRecord.Posted (a b : BusRecord) : Prop :=
  b.inFlight.isSome = a.inFlight.isSome ∧
  b = { a with orders := b.orders, heat := b.heat, inFlight := b.inFlight }

theorem modBus_steady (d : DishNo) (f : BusRecord → BusRecord) (s : State) (h : s.bus[d].Posted (f s.bus[d])) : Steady s (s.modBus d f) := by
  obtain ⟨busy, rest⟩ := h
  have read {α : Type} (x : BusRecord → α) (hx : x (f s.bus[d]) = x s.bus[d]) := read_set x s.bus d (f s.bus[d]) hx
  exact { Steady.refl s with
    busy := read (fun b => b.inFlight.isSome) busy
    link := read BusRecord.link (by rw [rest])
    failures := read BusRecord.failures (by rw [rest])
    lastStage := read BusRecord.lastStage (by rw [rest])
    goodCount := read BusRecord.goodCount (by rw [rest])
    countdown := read BusRecord.countdown (by rw [rest])
    fresh := read BusRecord.fresh (by rw [rest]) }

theorem modCircuit_steady (d : DishNo) (f : Circuit → Circuit) (s : State)
    (h : ∀ c, f c = { c with window := (f c).window, ownOpened := (f c).ownOpened }) : Steady s (s.modCircuit d f) := by
  have read {α : Type} (x : Circuit → α) (hx : x (f s.circuits[d]) = x s.circuits[d]) := read_set x s.circuits d (f s.circuits[d]) hx
  exact { Steady.refl s with
    mode := read Circuit.mode (by rw [h])
    forcedDuty := read Circuit.forcedDuty (by rw [h])
    demand := read Circuit.demand (by rw [h])
    arrears := read Circuit.arrears (by rw [h])
    iced := read Circuit.iced (by rw [h]) }

theorem modGrant_steady (d : DishNo) (f : MeltGrant → MeltGrant) (s : State) (h : ∀ g, (f g).rate = g.rate) : Steady s (s.modGrant d f) where
  __ := Steady.refl s
  rate := read_set MeltGrant.rate _ _ _ (h _)

/-! ### Postings, windows and shedding -/

theorem postMotion_steady (d : DishNo) (o : Order) (s : State) : Steady s (postMotion d o s) := by
  unfold postMotion; split
  · exact modBus_steady d _ s ⟨Option.isSome_map, rfl⟩
  · exact .refl s

theorem postHeat_steady (d : DishNo) (on : Bool) (s : State) : Steady s (postHeat d on s) := by
  unfold postHeat; split
  · exact modBus_steady d _ s ⟨Option.isSome_map, rfl⟩
  · exact .refl s

theorem openWindow_steady (d : DishNo) (s : State) : Steady s (openWindow d s) :=
  (modCircuit_steady d _ s fun _ => rfl).trans (postHeat_steady d true _)

theorem closeWindow_steady (d : DishNo) (s : State) : Steady s (closeWindow d s) := by
  have closed := (modCircuit_steady d (fun c => { c with window := none }) s fun _ => rfl).trans (postHeat_steady d false _)
  unfold closeWindow; dsimp only; split
  · exact closed.trans (openWindow_steady d _)
  · exact closed

theorem refitWindow_steady (d : DishNo) (s : State) : Steady s (refitWindow d s) := by
  unfold refitWindow; split
  · exact .refl s
  · dsimp only; split
    · exact closeWindow_steady d s
    · exact modCircuit_steady d _ s fun _ => rfl

theorem scheduleWindow_steady (d : DishNo) (s : State) : Steady s (scheduleWindow d s) := by
  have begun := modCircuit_steady d (fun c => { c with ownOpened := false }) s fun _ => rfl
  unfold scheduleWindow; dsimp only; split
  · exact begun
  · split
    · exact begun.trans (closeWindow_steady d _)
    · exact begun.trans (modCircuit_steady d _ _ fun _ => rfl)

theorem lowerDuty_steady (d : DishNo) (duty : Nat) (s : State) : Steady s (lowerDuty d duty s) :=
  (modGrant_steady d (fun g => { g with duty := duty }) s fun _ => rfl).trans (refitWindow_steady d _)

theorem shed_steady (floor need : Nat) (s : State) : Steady s (shed floor need s) :=
  shed_induction (P := Steady s) floor need s (fun _ _ _ h => h.trans (lowerDuty_steady _ _ _)) (.refl s)

/-! ### Motion states and reservations -/

theorem setMotion_steady (d : DishNo) (m : MotionState) (s : State) : Steady s (setMotion d m s) :=
  modDish_steady d _ s fun _ => ⟨rfl, rfl, rfl⟩

theorem setStowMove_steady (d : DishNo) (o : Option StowMove) (s : State) : Steady s (s.setStowMove d o) := steady_loose s _ _ _ _ _ _

theorem setKind_steady (d : DishNo) (k : ResKind) (s : State) : Steady s (setKind d k s) := steady_loose s _ _ _ _ _ _

theorem releaseDrive_steady (d : DishNo) (s : State) : Steady s (releaseDrive d s) := by
  rw [releaseDrive_eq]; exact steady_loose s _ _ _ _ _ _

theorem grantDrive_steady (d : DishNo) (k : ResKind) (level : Nat) (s : State) : Steady s (grantDrive d k level s) :=
  steady_loose s _ _ _ _ _ _

theorem raise_steady (c : Cond) (items : List Nat) (s : State) : Steady s (raise c items s) := steady_loose s _ _ _ _ _ _

theorem joinQueue_steady (d : DishNo) (s : State) : Steady s (joinQueue d s) :=
  (setMotion_steady d .stowQueued s).trans (steady_loose _ _ _ _ _ _ _)

theorem leaveQueue_steady (d : DishNo) (s : State) : Steady s (leaveQueue d s) := by
  rw [leaveQueue_eq]; exact steady_loose s _ _ _ _ _ _

theorem settle_steady (d : DishNo) (s : State) : Steady s (settle d s) := by
  have cleared := modDish_steady d (fun r => { r with
    group := none, targets := none, cutReason := none, quiet := none, quietStopped := false, returnMark := false }) s
    fun _ => ⟨rfl, rfl, rfl⟩
  unfold settle; dsimp only; split
  · exact cleared.trans (joinQueue_steady d _)
  · split <;> exact cleared.trans (setMotion_steady d _ _)

theorem goStopping_steady (d : DishNo) (keepGroup : Bool) (s : State) : Steady s (goStopping d keepGroup s) := by
  have first : Steady s (if keepGroup then s else s.modDish d fun r => { r with group := none }) := by
    split
    · exact .refl s
    · exact modDish_steady d _ s fun _ => ⟨rfl, rfl, rfl⟩
  unfold goStopping; dsimp only; split
  · exact first
  · exact (((first.trans (setMotion_steady d _ _)).trans (setStowMove_steady d _ _)).trans (postMotion_steady d _ _)).trans
      (setKind_steady d _ _)

theorem startQuiet_steady (d : DishNo) (s : State) : Steady s (startQuiet d s) := by
  refine Steady.trans ?_ (releaseDrive_steady d _)
  exact modDish_steady d _ s fun _ => ⟨rfl, rfl, rfl⟩

theorem leaveQueueIf_steady (d : DishNo) (p : Prop) [Decidable p] (s : State) : Steady s (if p then leaveQueue d s else s) := by
  split
  · exact leaveQueue_steady d s
  · exact .refl s

theorem goCut_steady (d : DishNo) (why : CutReason) (post : Bool) (s : State) : Steady s (goCut d why post s) := by
  unfold goCut; split
  · exact .refl s
  · have cut := ((((leaveQueueIf_steady d (s.dishes[d].motion = .stowQueued) s).trans (modDish_steady d (fun r =>
      { r with motion := .cut, cutReason := some why, group := none, quiet := none, quietStopped := false }) _
      fun _ => ⟨rfl, rfl, rfl⟩)).trans
      (setStowMove_steady d none _)).trans (setKind_steady d .stop _)).trans (raise_steady .dishCut [d.val] _)
    dsimp only; split
    · exact cut.trans (postMotion_steady d _ _)
    · exact cut

theorem goUnreachable_steady (d : DishNo) (s : State) : Steady s (goUnreachable d s) := by
  unfold goUnreachable
  refine (((leaveQueueIf_steady d (s.dishes[d].motion = .stowQueued) s).trans ?_).trans
    (setStowMove_steady d none _)).trans (setKind_steady d .retained _)
  exact modDish_steady d _ _ fun _ => ⟨rfl, rfl, rfl⟩

/-! ### Groups -/

theorem setGroup_steady (g : GroupNo) (o : Option Group) (s : State) : Steady s (s.setGroup g o) := steady_loose s _ _ _ _ _ _

theorem modGroup_steady (g : GroupNo) (f : Group → Group) (s : State) : Steady s (s.modGroup g f) := steady_loose s _ _ _ _ _ _

theorem modMember_steady (g : GroupNo) (d : DishNo) (f : Member → Member) (s : State) : Steady s (modMember g d f s) :=
  modGroup_steady g _ s

theorem judgeGroup_steady (g : GroupNo) (s : State) : Steady s (judgeGroup g s) := by
  rw [judgeGroup_touches]; exact steady_loose s _ _ _ _ _ _

theorem removeMember_steady (g : GroupNo) (d : DishNo) (why : RemovalReason) {transition : State → State}
    (ht : ∀ s, Steady s (transition s)) (s : State) : Steady s (removeMember g d why transition s) := by
  refine (((modGroup_steady g (Group.remove d why) s).trans ?_).trans (ht _)).trans (judgeGroup_steady g _)
  exact modDish_steady d _ _ fun _ => ⟨rfl, rfl, rfl⟩

theorem cutDish_steady (d : DishNo) (why : CutReason) (post : Bool) (s : State) : Steady s (cutDish d why post s) := by
  unfold cutDish; split
  · exact removeMember_steady _ d _ (goCut_steady d why post) s
  · exact goCut_steady d why post s

theorem lockMember_steady (g : GroupNo) (m : Member) (s : State) : Steady s (lockMember g m s) :=
  removeMember_steady g m.dish _ (fun t => by
    split
    · exact goStopping_steady _ _ t
    · exact settle_steady _ t) s

/-! ### Stow moves, serves and visits -/

theorem startStow_steady (d : DishNo) (s : State) : Steady s (startStow d s) := by
  refine (Steady.trans ?_ (setStowMove_steady d _ _)).trans (postMotion_steady d _ _)
  exact modDish_steady d _ s fun _ => ⟨rfl, rfl, rfl⟩

theorem shedForStow_steady (need : Int) (s : State) : Steady s (shedForStow need s) := shed_steady 0 (need - s.pFree).toNat s

theorem serveHead_steady (d : DishNo) (s : State) : Steady s (serveHead d s) :=
  ((shedForStow_steady _ s).trans (grantDrive_steady d .stow _ _)).trans (startStow_steady d _)

theorem serveLoop_steady (fuel : Nat) (s : State) : Steady s (serveLoop fuel s) := by
  induction fuel generalizing s with
  | zero => exact .refl s
  | succ n ih =>
    unfold serveLoop; split
    · exact .refl s
    · split
      · exact ((Steady.trans (steady_loose s _ _ _ _ _ _) (serveHead_steady _ _)).trans (ih _) : Steady s (serveLoop n (serveHead _ (s.setQueue _))))
      · exact .refl s

theorem serve_steady (s : State) : Steady s (serve s) := (steady_loose s _ _ _ _ _ false).trans (serveLoop_steady _ _)

theorem serveIfDue_steady (s : State) : Steady s (serveIfDue s) := by
  unfold serveIfDue; split
  · exact serve_steady s
  · exact .refl s

theorem convertOrHold_steady (d : DishNo) (s : State) : Steady s (convertOrHold d s) := by
  unfold convertOrHold; dsimp only; split
  · exact ((shedForStow_steady _ s).trans (grantDrive_steady d .stow _ _)).trans (startStow_steady d _)
  · exact goStopping_steady d _ s

theorem enterStow_steady (d : DishNo) (s : State) : Steady s (enterStow d s) := by
  unfold enterStow; split
  · exact joinQueue_steady d s
  · split
    · exact .refl s
    · exact joinQueue_steady d s
  · split
    · refine removeMember_steady _ d _ (fun t => ?_) s
      split
      · exact convertOrHold_steady d t
      · exact settle_steady d t
    · exact .refl s
  · split
    · exact removeMember_steady _ d _ (fun t => .refl t) s
    · exact .refl s
  · exact .refl s

theorem leaveStow_steady (d : DishNo) (s : State) : Steady s (leaveStow d s) := by
  unfold leaveStow; split
  · exact (leaveQueue_steady d s).trans (settle_steady d _)
  · exact settle_steady d s
  · exact .refl s

/-- What each of a list of operations leaves, they all leave. -/
theorem foldl_steady {α : Type} (f : α → State → State) (h : ∀ a s, Steady s (f a s)) (l : List α) (s : State) :
    Steady s (l.foldl (fun t a => f a t) s) :=
  foldl_keeps (P := Steady s) _ (fun _ a k => k.trans (h a _)) l s (.refl s)

theorem entryVisit_steady (c : CellNo) (s : State) : Steady s (entryVisit c s) :=
  (foldl_steady _ enterStow_steady _ s).trans (serve_steady _)

theorem leavingVisit_steady (c : CellNo) (s : State) : Steady s (leavingVisit c s) :=
  (foldl_steady _ leaveStow_steady _ s).trans (serve_steady _)

/-! ### Tags and replies -/

theorem takeLock_steady (d : DishNo) (gained : Coverage) (s : State) : Steady s (takeLock d gained s) := by
  unfold takeLock; split
  · exact setMotion_steady d _ s
  · split
    · exact lockMember_steady _ _ s
    · exact .refl s
  · split
    · exact lockMember_steady _ _ s
    · exact .refl s
  · split
    · exact (leaveQueue_steady d s).trans (setMotion_steady d _ _)
    · exact .refl s
  · split
    · exact goStopping_steady d _ s
    · exact .refl s
  · exact .refl s

theorem refusedReply_steady (d : DishNo) (o : Observed) (s : State) : Steady s (refusedReply d o s) := by
  unfold refusedReply; dsimp only; split
  · exact (cutDish_steady d _ _ s).trans (startQuiet_steady d _)
  · exact cutDish_steady d _ _ s

theorem stopEnded_steady (d : DishNo) (s : State) : Steady s (stopEnded d s) := by
  have released := releaseDrive_steady d s
  unfold stopEnded; dsimp only; split
  · exact released.trans (setMotion_steady d _ _)
  · split
    · exact ((released.trans (setMotion_steady d _ _)).trans (modMember_steady _ d _ _)).trans (judgeGroup_steady _ _)
    · exact released.trans (settle_steady d _)

theorem stoppingReply_steady (d : DishNo) (o : Observed) (s : State) : Steady s (stoppingReply d o s) := by
  unfold stoppingReply; split
  · exact stopEnded_steady d s
  · split
    · exact cutDish_steady d _ _ s
    · exact .refl s

theorem memberArrives_steady (g : GroupNo) (d : DishNo) (s : State) : Steady s (memberArrives g d s) :=
  ((modMember_steady g d _ s).trans (releaseDrive_steady d _)).trans (judgeGroup_steady g _)

theorem memberReply_steady (d : DishNo) (o : Observed) (took : Bool) (s : State) : Steady s (memberReply d o took s) := by
  unfold memberReply; split
  · exact .refl s
  · split
    · exact cutDish_steady d _ _ s
    · split
      · exact .refl s
      · split
        · exact memberArrives_steady _ d s
        · exact cutDish_steady d _ _ s

theorem stowArrives_steady (d : DishNo) (s : State) : Steady s (stowArrives d s) := by
  have released := ((setMotion_steady d .stowed s).trans (setStowMove_steady d none _)).trans (releaseDrive_steady d _)
  unfold stowArrives; dsimp only; split
  · exact released
  · exact released.trans (settle_steady d _)

theorem stowingReply_steady (d : DishNo) (o : Observed) (took : Bool) (s : State) : Steady s (stowingReply d o took s) := by
  unfold stowingReply; split
  · exact cutDish_steady d _ _ s
  · split
    · split
      · exact stowArrives_steady d s
      · exact cutDish_steady d _ _ s
    · exact .refl s

theorem returnReply_steady (d : DishNo) (o : Observed) (s : State) : Steady s (returnReply d o s) := by
  unfold returnReply; split
  · exact (goStopping_steady d _ s).trans (modDish_steady d _ _ fun _ => ⟨rfl, rfl, rfl⟩)
  · exact (setMotion_steady d _ s).trans (releaseDrive_steady d _)

theorem cutReply_steady (d : DishNo) (o : Observed) (s : State) : Steady s (cutReply d o s) := by
  unfold cutReply; split
  · split
    · exact startQuiet_steady d s
    · exact .refl s
  · exact modDish_steady d _ s fun _ => ⟨rfl, rfl, rfl⟩

theorem watchedReply_steady (d : DishNo) (r : Reply) (took isReturn : Bool) (s : State) : Steady s (watchedReply d r took isReturn s) := by
  unfold watchedReply; split
  · exact refusedReply_steady d _ s
  · split
    · exact stoppingReply_steady d _ s
    · exact memberReply_steady d _ took s
    · exact stowingReply_steady d _ took s
    · split
      · exact returnReply_steady d _ s
      · exact .refl s
    · exact cutReply_steady d _ s
    · exact .refl s

end Machine
end Sys2Proof
end

section
/-! PROOFS. A good reply (O33): its record, the report of a SETPOINT taken, and what its handling by the dish and tag tables leaves of it. -/

namespace Sys2Proof
namespace Machine

/-- R170, R171: the SETPOINT that a good reply reports as taken. -/
def InFlight.reported (x : InFlight) (r : Reply) : Option Setpoint := if r.refused = true then none else x.taken

/-- R170, R171, R175: a bus record after a good reply; `cuts` tells whether a REFUSED one cuts the dish. -/
def BusRecord.replied (x : InFlight) (r : Reply) (cuts : Bool) (b : BusRecord) : BusRecord :=
  { (if r.refused = true then b.countGood.dropRefused x cuts else b.countGood.dropSent x) with fresh := false, inFlight := none }

/-- R35, R118: the start and the deadline that a SETPOINT reported as taken fixes. -/
def setpointReported (d : DishNo) (began : Nat) (taken : Option Setpoint) (s : State) : State :=
  match taken with
  | some sp => setpointTaken d sp began s
  | none => s

theorem setpointReported_touches (d : DishNo) (began : Nat) (taken : Option Setpoint) (s : State) : setpointReported d began taken s =
    { s with groups := (setpointReported d began taken s).groups, stowMoves := (setpointReported d began taken s).stowMoves } := by
  unfold setpointReported setpointTaken slewTaken stowTaken
  repeat' split
  all_goals rfl

theorem dropSent_inFlight (x : InFlight) (b : BusRecord) : (b.dropSent x).inFlight = b.inFlight := by
  unfold BusRecord.dropSent
  repeat' split
  all_goals rfl

/-- R170, R171: the end of a transaction that brought a good reply. -/
theorem endTransaction_reply (d : DishNo) (x : InFlight) (r : Reply) (s : State) :
    endTransaction d x (.reply r) (s.modBus d fun b => { b with inFlight := none }) =
      handleReply d r (x.reported r).isSome s.bus[d].fresh
        (setpointReported d x.began (x.reported r) (s.modBus d (BusRecord.replied x r s.dishes[d].motion.refusalCuts))) := by
  have same : (s.modBus d fun b => { b with inFlight := none }).bus[d].fresh = s.bus[d].fresh := by rw [State.modBus_same]
  unfold endTransaction
  dsimp only
  unfold InFlight.reported
  split
  case isTrue h =>
    unfold rejectedReply
    rw [same, modBus_modBus]
    refine congrArg (fun f => handleReply d r false s.bus[d].fresh (s.modBus d f)) (funext fun b => ?_)
    unfold BusRecord.replied
    rw [if_pos h]
    unfold BusRecord.dropRefused
    split <;> rfl
  case isFalse h =>
    have record : ((s.modBus d fun b => { b with inFlight := none }).modBus d fun b => { b.countGood.dropSent x with fresh := false }) =
        s.modBus d (BusRecord.replied x r s.dishes[d].motion.refusalCuts) := by
      rw [modBus_modBus]
      refine congrArg (s.modBus d) (funext fun b => ?_)
      unfold BusRecord.replied
      rw [if_neg h]
      unfold BusRecord.dropSent
      split
      · split <;> rfl
      · split <;> rfl
      · rfl
    unfold acceptedReply
    dsimp only
    rw [same, record]
    rfl

theorem replied_counts (x : InFlight) (r : Reply) (cuts : Bool) (b : BusRecord) : b.replied x r cuts =
    { b with
      inFlight := none, failures := 0, goodCount := min 65535 (b.goodCount + 1), fresh := false
      orders := (b.replied x r cuts).orders, heat := (b.replied x r cuts).heat } := by
  unfold BusRecord.replied BusRecord.dropRefused BusRecord.dropSent
  repeat' split
  all_goals rfl

theorem judgeTags_touches (d : DishNo) (r : Reply) (took isReturn : Bool) (before s : State) : judgeTags d r took isReturn before s =
    { s with
      tags := (judgeTags d r took isReturn before s).tags, port := (judgeTags d r took isReturn before s).port } := by
  unfold judgeTags holdTags
  repeat' split
  all_goals rfl

theorem returnHeat_steady (d : DishNo) (isReturn : Bool) (s : State) : Steady s (returnHeat d isReturn s) := by
  unfold returnHeat; split
  · exact postHeat_steady d _ s
  · exact .refl s

/-- What the handling of a reply leaves of the observed statuses and of the bus records' links and counts. -/
theorem handleReply_leaves (d : DishNo) (r : Reply) (took isReturn : Bool) (s : State) (e : DishNo) :
    (handleReply d r took isReturn s).dishes[e].observed = (if e = d then some r.observed else s.dishes[e].observed) ∧
    (handleReply d r took isReturn s).bus[e].failures = s.bus[e].failures ∧
    (handleReply d r took isReturn s).bus[e].goodCount = s.bus[e].goodCount ∧
    (handleReply d r took isReturn s).bus[e].lastStage = s.bus[e].lastStage ∧
    (handleReply d r took isReturn s).bus[e].fresh = s.bus[e].fresh ∧
    (handleReply d r took isReturn s).bus[e].inFlight.isSome = s.bus[e].inFlight.isSome ∧
    (handleReply d r took isReturn s).bus[e].link = s.bus[e].link := by
  unfold handleReply
  dsimp only
  have observed : (s.modDish d fun x => { x with observed := some r.observed }).dishes[e].observed =
      if e = d then some r.observed else s.dishes[e].observed := by
    split
    case isTrue h => subst h; rw [State.modDish_same]
    case isFalse h => rw [State.modDish_other _ _ _ _ h]
  have bus : (s.modDish d fun x => { x with observed := some r.observed }).bus = s.bus := rfl
  generalize (s.modDish d fun x => { x with observed := some r.observed }) = s0 at observed bus ⊢
  have watched := watchedReply_steady d r took isReturn s0
  generalize watchedReply d r took isReturn s0 = u at watched ⊢
  have tags := judgeTags_touches d r took isReturn s0 u
  generalize judgeTags d r took isReturn s0 u = v at tags ⊢
  have ends := (returnHeat_steady d isReturn v).trans (serveIfDue_steady _)
  have dishes : v.dishes = u.dishes := by rw [tags]
  have records : v.bus = u.bus := by rw [tags]
  rw [← observed, ← bus]
  refine ⟨(ends.observed e).trans ?_, (ends.failures e).trans ?_, (ends.goodCount e).trans ?_, (ends.lastStage e).trans ?_,
    (ends.fresh e).trans ?_, (ends.busy e).trans ?_, (ends.link e).trans ?_⟩
  · rw [dishes]; exact watched.observed e
  all_goals rw [records]
  · exact watched.failures e
  · exact watched.goodCount e
  · exact watched.lastStage e
  · exact watched.fresh e
  · exact watched.busy e
  · exact watched.link e

/-- R170, R171: what a good reply makes of the order list and the heat slot. -/
theorem replied_lists (x : InFlight) (r : Reply) (cuts : Bool) (b : BusRecord) :
    (b.replied x r cuts).orders =
      (if r.refused = true then (if (match x.sent with | .motion _ => true | _ => false) = true ∨ cuts = true then [] else b.orders)
      else if (match x.sent with | .motion _ => true | _ => false) = true ∧ x.headGone = false then b.orders.tail
      else b.orders) ∧
    (b.replied x r cuts).heat =
      (if (match x.sent with | .heat _ => true | _ => false) = true ∧ x.heatPosted = false then none else b.heat) := by
  unfold BusRecord.replied BusRecord.dropRefused BusRecord.dropSent BusRecord.countGood
  cases r.refused <;> cases x.sent <;> cases x.headGone <;> cases x.heatPosted <;> cases cuts <;> exact ⟨rfl, rfl⟩

/-- R35, R118: the report of a SETPOINT taken, by its kind and by the member entry of the dish. -/
theorem setpointReported_eq (d : DishNo) (began : Nat) (taken : Option Setpoint) (s : State) : setpointReported d began taken s =
    match taken.map Setpoint.kind, s.memberOf d with
    | some (.slew start), some (g, m) =>
      if s.dishes[d].motion = .member ∧ m.sub = .moving then
        modMember g d (fun e =>
          { e with
            start := some (max start began)
            deadline := (s.groups[g].bind Group.tG).map (fun span => max start began + span) }) s
      else s
    | some .stow, _ =>
      if s.dishes[d].motion = .stowing then
        { s with stowMoves := s.stowMoves.set d (s.stowMoves[d].map (fun m =>
            { m with start := some began, deadline := some (began + m.time + m.margin) })) }
      else s
    | _, _ => s := by
  unfold setpointReported setpointTaken slewTaken stowTaken
  rcases taken with _ | ⟨_ | start, az, el⟩
  · rfl
  · cases s.memberOf d with
    | none => cases s.dishes[d].motion <;> rfl
    | some e => cases s.dishes[d].motion <;> simp
  · rfl

/-- Settles O33. -/
theorem goodReplyIsRecorded : Obligations.GoodReplyIsRecorded := by
  unfold Obligations.GoodReplyIsRecorded
  intro d chars cutShort s x r hx whole good b motion heat cuts s1 taken s2 s3 s4
  have htaken : taken = x.reported r := by
    unfold taken InFlight.reported InFlight.taken
    cases x.sent with
    | motion o => cases o <;> cases r.refused <;> cases x.headGone <;> rfl
    | heat on | status | probe => cases r.refused <;> rfl
  have hcuts : (s.dishes[d].motion.refusalCuts = true) = cuts := propext (refusalCuts_iff _)
  have record : s.modBus d (BusRecord.replied x r s.dishes[d].motion.refusalCuts) = s1 := by
    obtain ⟨orders, slot⟩ := replied_lists x r s.dishes[d].motion.refusalCuts s.bus[d]
    have counts := replied_counts x r s.dishes[d].motion.refusalCuts s.bus[d]
    rw [orders, slot] at counts
    simp only [hcuts] at counts
    unfold State.modBus
    rw [counts] <;> rfl
  have reported : setpointReported d x.began (x.reported r) s1 = s2 := by
    rw [setpointReported_eq]
    unfold s2
    rw [htaken]
    rfl
  have touched := setpointReported_touches d x.began (x.reported r) s1
  rw [reported] at touched
  have observed : s3 = s2.modDish d fun y => { y with observed := some r.observed } := by
    unfold s3 State.modDish
    rw [touched]
  have records : s2.bus = s1.bus := by rw [touched]
  have dishes : s2.dishes = s.dishes := by rw [touched]
  have ends : exec (.transactionEnd d chars cutShort) s = .next (handleReply d r (x.reported r).isSome b.fresh s2) := by
    rw [transactionEnd_judged hx whole, good, endTransaction_reply, record, reported]
  have entry : s1.bus[d].inFlight = none ∧ s1.bus[d].failures = 0 ∧ s1.bus[d].goodCount = min 65535 (b.goodCount + 1) ∧
      s1.bus[d].lastStage = b.lastStage ∧ s1.bus[d].fresh = false ∧ s1.bus[d].link = b.link := by
    unfold s1
    dsimp only
    rw [getElem_set_same]
    exact ⟨rfl, rfl, rfl, rfl, rfl, rfl⟩
  obtain ⟨idle, failures, count, stage, fresh, link⟩ := entry
  refine ⟨_, ends, ?_, ?_⟩
  · unfold s4
    rw [htaken, observed]
    rfl
  · have leaves := handleReply_leaves d r (x.reported r).isSome b.fresh s2
    rw [records, dishes] at leaves
    obtain ⟨hObserved, hFailures, hCount, hStage, hFresh, hIdle, hLink⟩ := leaves d
    refine ⟨hObserved.trans (if_pos rfl), hFailures.trans failures, hCount.trans count, hStage.trans stage, hFresh.trans fresh, ?_,
      hLink.trans link, fun e he => ?_⟩
    · rw [idle] at hIdle
      exact Option.isNone_iff_eq_none.mp (by rw [← Option.not_isSome, hIdle]; rfl)
    · obtain ⟨otherObserved, otherFailures, -⟩ := leaves e
      refine ⟨otherObserved.trans (if_neg he), otherFailures.trans ?_⟩
      unfold s1
      dsimp only
      rw [getElem_set_other _ _ _ _ he]

end Machine
end Sys2Proof
end

section
/-! PROOFS. The heater boundary (O36): arrears, ICED flags, demands, grants and windows for every dish. -/

namespace Sys2Proof
namespace Machine

/-! ### Demand (TABLE 7.4) -/

/-- TABLE 7.4, as the statements write it. -/
def demandFrom (r : DishRecord) (covered : Bool) (w : MeltWeather) (c : Circuit) : Nat :=
  if r.present = false ∨ covered = true ∨ c.mode = .off then 0
  else if c.mode = .forced then c.forcedDuty
  else if w.on = false then 0
  else
    match w.zones[r.desc.zone].temp with
    | none => 16
    | some temp => if 20 < temp then 0 else min 16 (4 + ((20 - temp) / 10).toNat)

theorem demandOf_eq (s : State) (d : DishNo) : s.demandOf d = demandFrom s.dishes[d] (s.coverage d).melt s.meltWeather s.circuits[d] := by
  unfold State.demandOf demandFrom
  by_cases out : s.dishes[d].present = false ∨ (s.coverage d).melt = true
  · rw [if_pos (by simpa using out), if_pos (by tauto)]
  rw [if_neg (by simpa using out)]
  obtain ⟨present, uncovered⟩ := not_or.mp out
  cases s.circuits[d].mode with
  | off => simp only [or_true, if_true]
  | forced => simp only [present, uncovered, or_self, reduceCtorEq, if_true, if_false]
  | auto =>
    simp only [present, uncovered, or_self, reduceCtorEq, if_false, Bool.not_eq_true']
    split
    · rfl
    cases s.meltWeather.zones[s.dishes[d].desc.zone].temp with
    | none => rfl
    | some t =>
      dsimp only
      split
      · rfl
      · congr 2
        omega

theorem computeDemand_eq (d : DishNo) (s : State) : computeDemand d s = { s with
    circuits := s.circuits.set d { s.circuits[d] with
      demand := demandFrom s.dishes[d] (s.coverage d).melt s.meltWeather s.circuits[d] } } := by
  unfold computeDemand State.modCircuit
  rw [demandOf_eq]

/-! ### ICED flags (R140) -/

/-- R140: a flag that becomes set. -/
theorem judgeIced_eq (d : DishNo) (s : State) : judgeIced d s =
    (let judged := s.modCircuit d fun c => { c with iced := judgedIced s.settings.iceLimit c.arrears c.iced }
    if s.settings.iceLimit ≤ s.circuits[d].arrears ∧ s.circuits[d].iced = false then raise .iced [d.val] judged else judged) := by
  have becomes : (judgedIced s.settings.iceLimit s.circuits[d].arrears s.circuits[d].iced && !s.circuits[d].iced) = true ↔
      s.settings.iceLimit ≤ s.circuits[d].arrears ∧ s.circuits[d].iced = false := by
    unfold judgedIced
    cases s.circuits[d].iced <;> simp
  unfold judgeIced
  dsimp only
  simp only [becomes]
  rfl

theorem raise_port_congr {s t : State} (c : Cond) (items : List Nat) (h : t.port = s.port) : (raise c items t).port = (raise c items s).port := by
  unfold raise State.modPort
  rw [h]

/-- R140: the flags of a list of dishes: the circuits are judged, and each flag that becomes set is raised, in the list's order. -/
theorem foldl_judgeIced_port (fresh : DishNo → Prop) [DecidablePred fresh] (ds : List DishNo) (nodup : ds.Nodup) (s v : State) (port : s.port = v.port)
    (h : ∀ d ∈ ds, (s.settings.iceLimit ≤ s.circuits[d].arrears ∧ s.circuits[d].iced = false) = fresh d) :
    (ds.foldl (fun t d => judgeIced d t) s).port = (ds.foldl (fun v d => if fresh d then raise .iced [d.val] v else v) v).port := by
  induction ds generalizing s v with
  | nil => exact port
  | cons d ds ih =>
    rw [List.nodup_cons] at nodup
    obtain ⟨out, nodup⟩ := nodup
    rw [List.foldl_cons, List.foldl_cons]
    refine ih nodup _ _ ?_ fun e he => ?_
    · rw [judgeIced_eq]
      dsimp only
      simp only [h d List.mem_cons_self]
      split
      · exact raise_port_congr _ _ port
      · exact port
    · have ne : e ≠ d := fun same => out (same ▸ he)
      have other : (judgeIced d s).circuits[e] = s.circuits[e] ∧ (judgeIced d s).settings = s.settings := by
        rw [judgeIced_eq]
        dsimp only
        split
        · exact ⟨getElem_set_other _ _ _ _ ne, rfl⟩
        · exact ⟨getElem_set_other _ _ _ _ ne, rfl⟩
      rw [other.1, other.2]
      exact h e (List.mem_cons_of_mem _ he)

/-- What is raised for one of the dishes of a list stands among the items. -/
theorem mem_foldl_raise (fresh : DishNo → Prop) [DecidablePred fresh] (c : Cond) (ds : List DishNo) (v : State) (d : DishNo) (hd : d ∈ ds) (hf : fresh d) :
    d.val ∈ (ds.foldl (fun v d => if fresh d then raise c [d.val] v else v) v).port.conditions[c.index].items := by
  induction ds generalizing v with
  | nil => cases hd
  | cons e ds ih =>
    rw [List.foldl_cons]
    rcases List.mem_cons.mp hd with rfl | later
    · refine foldl_keeps (P := fun w : State => d.val ∈ w.port.conditions[c.index].items) _ (fun w e h => ?_) ds _ ?_
      · split
        · rw [raise_same]; exact (mem_foldl_insertItem _ _ _).mpr (.inl h)
        · exact h
      · rw [if_pos hf, raise_same]; exact (mem_foldl_insertItem _ _ _).mpr (.inr (List.mem_singleton.mpr rfl))
    · exact ih _ later

/-! ### The circuits at a boundary (R131, R139, R140) -/

/-- What the operations of a boundary read of one dish. -/
def State.meltView (s : State) (d : DishNo) : DishRecord × Bool × MeltWeather × Settings × MeltGrant × Circuit :=
  (s.dishes[d], (s.coverage d).melt, s.meltWeather, s.settings, s.grants[d], s.circuits[d])

/-- An operation that changes one circuit, by what is read of its dish. -/
theorem forDishes_circuits {f : DishNo → State → State} {G : DishRecord × Bool × MeltWeather × Settings × MeltGrant × Circuit → Circuit}
    (h : ∀ d s, ∃ port, f d s = { s with circuits := s.circuits.set d (G (s.meltView d)), port := port }) (s : State) :
    (∃ circuits port, forDishes f s = { s with circuits := circuits, port := port }) ∧
    ∀ d : DishNo, (forDishes f s).circuits[d] = G (s.meltView d) := by
  constructor
  · refine foldl_keeps (P := fun t : State => ∃ circuits port, t = { s with circuits := circuits, port := port }) _ (fun t d ht => ?_)
      allDishes s ⟨s.circuits, s.port, rfl⟩
    obtain ⟨circuits, port, rfl⟩ := ht
    obtain ⟨port', e⟩ := h d { s with circuits := circuits, port := port }
    exact ⟨_, port', e⟩
  · intro d
    have view := foldl_view (view := fun d s => State.meltView s d) (f := f)
      (G := fun _ x => (x.1, x.2.1, x.2.2.1, x.2.2.2.1, x.2.2.2.2.1, G x))
      (fun d e t he => by
        obtain ⟨port, ht⟩ := h d t
        rw [ht]
        unfold State.meltView
        dsimp only
        rw [getElem_set_other _ _ _ _ he]
        rfl)
      (fun d t => by
        obtain ⟨port, ht⟩ := h d t
        rw [ht]
        unfold State.meltView
        dsimp only
        rw [getElem_set_same]
        rfl)
      allDishes allDishes_nodup s d
    rw [if_pos (mem_allDishes d)] at view
    exact congrArg (fun x : DishRecord × Bool × MeltWeather × Settings × MeltGrant × Circuit => x.2.2.2.2.2) view

theorem closeArrears_forDishes (s : State) (d : DishNo) : (forDishes closeArrears s).circuits[d] =
    { s.circuits[d] with arrears := nextArrears s.circuits[d].arrears s.circuits[d].demand s.grants[d].duty } :=
  (forDishes_circuits (G := fun x => { x.2.2.2.2.2 with
    arrears := nextArrears x.2.2.2.2.2.arrears x.2.2.2.2.2.demand x.2.2.2.2.1.duty }) (fun _ s => ⟨s.port, rfl⟩) s).2 d

/-- What a heater boundary makes of a circuit before its grants: arrears (none closed at site time 0), ICED flag and demand. -/
def boundaryCircuit (s : State) (d : DishNo) : Circuit :=
  let x := s.circuits[d]
  let closed := if s.siteTime = 0 then x.arrears else nextArrears x.arrears x.demand s.grants[d].duty
  { x with
    arrears := closed, iced := judgedIced s.settings.iceLimit closed x.iced
    demand := demandFrom s.dishes[d] (s.coverage d).melt s.meltWeather x }

/-- The state of a boundary before its grants. -/
def demanded (s : State) : State :=
  forDishes computeDemand (forDishes judgeIced (if s.siteTime = 0 then s else forDishes closeArrears s))

theorem closed_eq (s : State) : ∃ circuits, (if s.siteTime = 0 then s else forDishes closeArrears s) = { s with circuits := circuits } ∧
    ∀ d : DishNo, circuits[d] = { s.circuits[d] with
      arrears := if s.siteTime = 0 then s.circuits[d].arrears
        else nextArrears s.circuits[d].arrears s.circuits[d].demand s.grants[d].duty } := by
  split
  case isTrue => exact ⟨s.circuits, rfl, fun _ => rfl⟩
  case isFalse =>
    have keeps : ∃ circuits, forDishes closeArrears s = { s with circuits := circuits } := by
      refine foldl_keeps (P := fun t : State => ∃ circuits, t = { s with circuits := circuits }) _ (fun t d ht => ?_) allDishes s ⟨s.circuits, rfl⟩
      obtain ⟨circuits, rfl⟩ := ht
      exact ⟨_, rfl⟩
    obtain ⟨circuits, e⟩ := keeps
    exact ⟨circuits, e, fun d => by rw [← closeArrears_forDishes, e]⟩

theorem judgeIced_forDishes (s : State) : (∃ circuits port, forDishes judgeIced s = { s with circuits := circuits, port := port }) ∧
    ∀ d : DishNo, (forDishes judgeIced s).circuits[d] =
      { s.circuits[d] with iced := judgedIced s.settings.iceLimit s.circuits[d].arrears s.circuits[d].iced } :=
  forDishes_circuits (G := fun x => { x.2.2.2.2.2 with
    iced := judgedIced x.2.2.2.1.iceLimit x.2.2.2.2.2.arrears x.2.2.2.2.2.iced }) (fun d s => by
      rw [judgeIced_eq]
      dsimp only
      split
      · exact ⟨_, rfl⟩
      · exact ⟨_, rfl⟩) s

theorem computeDemand_forDishes (s : State) : (∃ circuits, forDishes computeDemand s = { s with circuits := circuits }) ∧
    ∀ d : DishNo, (forDishes computeDemand s).circuits[d] =
      { s.circuits[d] with demand := demandFrom s.dishes[d] (s.coverage d).melt s.meltWeather s.circuits[d] } := by
  refine ⟨?_, (forDishes_circuits (G := fun x => { x.2.2.2.2.2 with demand := demandFrom x.1 x.2.1 x.2.2.1 x.2.2.2.2.2 })
    (fun d s => ⟨s.port, computeDemand_eq d s⟩) s).2⟩
  refine foldl_keeps (P := fun t : State => ∃ circuits, t = { s with circuits := circuits }) _ (fun t d ht => ?_) allDishes s ⟨s.circuits, rfl⟩
  obtain ⟨circuits, rfl⟩ := ht
  exact ⟨_, rfl⟩

/-- R131, R139, R140: what a boundary makes of every circuit, and what it raises. -/
theorem demanded_eq (s : State) : (∀ d, (demanded s).circuits[d] = boundaryCircuit s d) ∧
    demanded s = { s with
      circuits := (demanded s).circuits
      port := (allDishes.foldl (fun v d =>
        if s.settings.iceLimit ≤ (boundaryCircuit s d).arrears ∧ s.circuits[d].iced = false then raise .iced [d.val] v else v) s).port } := by
  obtain ⟨closed, hClosed, arrears⟩ := closed_eq s
  unfold demanded
  rw [hClosed]
  obtain ⟨⟨iced, port, hIced⟩, flags⟩ := judgeIced_forDishes { s with circuits := closed }
  have raised := foldl_judgeIced_port
    (fun d => s.settings.iceLimit ≤ (boundaryCircuit s d).arrears ∧ s.circuits[d].iced = false) allDishes allDishes_nodup
    { s with circuits := closed } s rfl fun d _ => by
      dsimp only
      rw [arrears]
      rfl
  change (forDishes judgeIced { s with circuits := closed }).port = _ at raised
  rw [hIced] at flags raised ⊢
  dsimp only at flags raised
  obtain ⟨⟨demands, hDemands⟩, demand⟩ := computeDemand_forDishes { s with circuits := iced, port := port }
  rw [hDemands] at demand ⊢
  dsimp only at demand
  refine ⟨fun d => ?_, ?_⟩
  · rw [demand, flags, arrears]
    rfl
  · rw [← raised]

/-- R76: the grants of a boundary, the serve that a fallen reservation makes due, and the pass-2 start. -/
theorem grantMelt_eq (s : State) : grantMelt s = { s with
    grants := boundaryGrants s
    feed := { s.feed with pass2 := dishAfter s.feed.pass2 1 }
    serveDue := if ∃ d : DishNo, (boundaryGrants s)[d].reservation < s.grants[d].reservation then true else s.serveDue } := by
  have falls : allDishes.any (fun d => decide ((boundaryGrants s)[d].reservation < s.grants[d].reservation)) = true ↔
      ∃ d : DishNo, (boundaryGrants s)[d].reservation < s.grants[d].reservation := by
    rw [List.any_eq_true]
    simp only [mem_allDishes, true_and, decide_eq_true_eq]
  unfold grantMelt
  dsimp only
  simp only [falls]
  split <;> rfl

/-- R134: the state of a boundary before its windows are scheduled. -/
def granted (s : State) : State := (grantMelt (demanded s)).modWeather fun w => { w with lastBoundary := some s.siteTime }

theorem granted_eq (s : State) : granted s = { s with
    circuits := (demanded s).circuits
    port := (demanded s).port
    grants := boundaryGrants { s with circuits := (demanded s).circuits }
    feed := { s.feed with pass2 := dishAfter s.feed.pass2 1 }
    meltWeather := { s.meltWeather with lastBoundary := some s.siteTime }
    serveDue :=
      if ∃ d : DishNo, (boundaryGrants { s with circuits := (demanded s).circuits })[d].reservation < s.grants[d].reservation then true
      else s.serveDue } := by
  obtain ⟨-, frame⟩ := demanded_eq s
  have grants : boundaryGrants (demanded s) = boundaryGrants { s with circuits := (demanded s).circuits } := by
    rw [frame]
    rfl
  unfold granted
  rw [grantMelt_eq, grants]
  generalize boundaryGrants { s with circuits := (demanded s).circuits } = v
  rw [frame]
  rfl

/-- R140: a flag that becomes set is set at the ice limit. -/
theorem limit_le_of_judgedIced {limit arrears : Nat} {iced : Bool} (h : judgedIced limit arrears iced = true) (clear : iced = false) :
    limit ≤ arrears := by
  unfold judgedIced at h
  rw [clear] at h
  by_contra below
  rw [if_neg below] at h
  split at h <;> cases h

/-- Settles O36. -/
theorem heaterBoundaryClosesArrearsAndSamplesDemand : Obligations.HeaterBoundaryClosesArrearsAndSamplesDemand := by
  unfold Obligations.HeaterBoundaryClosesArrearsAndSamplesDemand
  intro s limit closed
  have due : boundaryDue s = true ↔ s.siteTime % 1600 = 0 ∧ s.meltWeather.lastBoundary ≠ some s.siteTime := by
    unfold boundaryDue
    rw [Bool.and_eq_true, beq_iff_eq, bne_iff_ne]
    rfl
  have runs : exec .heaterBoundary s = .next (if boundaryDue s then heaterBoundary s else s) := rfl
  refine ⟨fun early => ?_, fun onTime fresh => ?_⟩
  · rw [runs, if_neg]
    rw [due]
    rintro ⟨h, h'⟩
    exact early.elim (· h) h'
  obtain ⟨entries, frame⟩ := demanded_eq s
  have port := congrArg State.port frame
  dsimp only at port
  have windows : Steady (granted s) (serveIfDue (forDishes scheduleWindow (granted s))) :=
    (foldl_steady scheduleWindow scheduleWindow_steady allDishes (granted s)).trans (serveIfDue_steady _)
  have grant := granted_eq s
  have circuits : (granted s).circuits = (demanded s).circuits := by rw [grant]
  have weather : (granted s).meltWeather.lastBoundary = some s.siteTime := by rw [grant]
  have grants : (granted s).grants = boundaryGrants { s with circuits := (demanded s).circuits } := by rw [grant]
  have pass : (granted s).feed.pass2 = dishAfter s.feed.pass2 1 := by rw [grant]
  have ports : (granted s).port = (demanded s).port := by rw [grant]
  refine ⟨granted s, serveIfDue (forDishes scheduleWindow (granted s)), ?_, rfl, ?_, ?_, fun d => ⟨?_, ?_⟩, ?_, ?_, fun d => ⟨?_, ?_, ?_, ?_⟩⟩
  · rw [runs, if_pos (due.mpr ⟨onTime, fresh⟩)]
    rfl
  · conv_lhs => rw [grant]
    rw [circuits, grants, pass, port]
    rfl
  · rw [pass]
    rfl
  · rw [circuits, entries]
    rfl
  · intro iced clear
    rw [ports, port]
    exact mem_foldl_raise _ .iced allDishes s d (mem_allDishes d) ⟨limit_le_of_judgedIced iced clear, clear⟩
  · exact (congrArg MeltWeather.lastBoundary windows.meltWeather).trans weather
  · exact congrArg Feed.pass2 windows.feed
  · exact windows.arrears d
  · exact windows.iced d
  · exact windows.demand d
  · refine (windows.rate d).trans ?_
    rw [grants]
    obtain ⟨-, rate, -⟩ := (boundaryGrants_keeps { s with circuits := (demanded s).circuits }).2 d
    exact rate

end Machine
end Sys2Proof
end

section
/-! PROOFS. The weather line (O38): the detector's table, and the full match that stows every cell. -/

namespace Sys2Proof
namespace Machine

/-! ### Judging a cell (R106) -/

/-- R106: judging a cell puts it in the state called for, and leaves all that a visit leaves. -/
theorem judgeCell_steady (c : CellNo) (s : State) : Steady (s.modCell c Cell.judged) (judgeCell c s) := by
  unfold judgeCell; dsimp only; split
  case isTrue same =>
    have judged : s.cells[c].judged = s.cells[c] := by unfold Cell.judged; rw [same]
    have unchanged : s.modCell c Cell.judged = s := by
      unfold State.modCell
      rw [judged, set_getElem_self]
    rw [unchanged]
    exact .refl s
  case isFalse =>
    have raised : Steady (s.modCell c Cell.judged) (raise .stowChanged [c.val] (s.modCell c fun x =>
        { x with state := judgedState s.cells[c].reasons s.cells[c].mean s.cells[c].limits.watch })) := raise_steady _ _ _
    split
    · exact raised.trans (entryVisit_steady c _)
    · split
      · exact raised.trans (leavingVisit_steady c _)
      · exact raised

theorem judgeCell_same (c : CellNo) (s : State) : (judgeCell c s).cells[c] = s.cells[c].judged := by
  rw [(judgeCell_steady c s).cells, State.modCell_same]

theorem judgeCell_other (c e : CellNo) (s : State) (h : e ≠ c) : (judgeCell c s).cells[e] = s.cells[e] := by
  rw [(judgeCell_steady c s).cells, State.modCell_other _ _ _ _ h]

/-- R106: a cell with a reason is in STOW. -/
theorem judgedState_of_any {r : Reasons} (h : r.any = true) (mean watch : Nat) : judgedState r mean watch = .stow := if_pos h

/-! ### A full match (R111) -/

/-- R111: a cell under the EXTERNAL reason. -/
def Cell.underExternal (x : Cell) : Cell := { x with reasons := { x.reasons with external := true } }

theorem externCell_eq (c : CellNo) (s : State) : externCell c s = judgeCell c (s.modCell c Cell.underExternal) := rfl

theorem externCells_cells (s : State) (c : CellNo) :
    (allCells.foldl (fun t c => externCell c t) s).cells[c] = s.cells[c].underExternal.judged := by
  have view := foldl_view (view := fun c (s : State) => s.cells[c]) (f := externCell) (G := fun _ x => x.underExternal.judged)
    (fun c e t he => by rw [externCell_eq, judgeCell_other c e _ he, State.modCell_other _ _ _ _ he])
    (fun c t => by rw [externCell_eq, judgeCell_same, State.modCell_same]) allCells (List.nodup_finRange 8) s c
  rw [view]
  exact if_pos (List.mem_finRange c)

theorem underExternal_judged (x : Cell) : x.underExternal.judged.reasons = { x.reasons with external := true } ∧ x.underExternal.judged.state = .stow := by
  have any : x.underExternal.reasons.any = true := by
    unfold Reasons.any Cell.underExternal
    dsimp only
    rw [Bool.or_true]
  exact ⟨rfl, judgedState_of_any any _ _⟩

theorem modCell_detector (c : CellNo) (f : Cell → Cell) (s : State) : (s.modCell c f).detector = s.detector := rfl

theorem externCells_detector (s : State) : (allCells.foldl (fun t c => externCell c t) s).detector = s.detector :=
  foldl_keeps (P := fun t : State => t.detector = s.detector) _
    (fun t c h => by rw [externCell_eq, (judgeCell_steady c _).detector]; exact h) allCells s rfl

/-- R111: a full match leaves every cell in STOW under EXTERNAL, the condition raised. -/
theorem fullMatch_leaves (s : State) (c : CellNo) :
    (serveIfDue (fullMatch s)).cells[c] = s.cells[c].underExternal.judged ∧ (serveIfDue (fullMatch s)).detector = s.detector ∧
    (serveIfDue (fullMatch s)).port.conditions[Cond.externalStow.index].flag = true := by
  have served := ((raise_steady .externalStow [] _).trans (serveIfDue_steady (fullMatch s)))
  refine ⟨?_, served.detector.trans (externCells_detector s), ?_⟩
  · rw [served.cells]
    exact externCells_cells s c
  · have flag : (fullMatch s).port.conditions[Cond.externalStow.index].flag = true := by
      unfold fullMatch
      rw [raise_same]
    exact ((serveIfDue_keeps (fullMatch s)).conditions _).1 flag

/-! ### The detector (TABLE 6.4) -/

theorem codeHigh_eq (code : BitVec 16) : codeHigh code = code.extractLsb' 8 8 := by
  apply BitVec.eq_of_toNat_eq
  simp [codeHigh]

theorem codeLow_eq (code : BitVec 16) : codeLow code = code.extractLsb' 0 8 := by
  apply BitVec.eq_of_toNat_eq
  simp [codeLow]

/-- A whole character that completes no match moves the detector alone. -/
theorem weatherByte_goes {b : Byte} {s : State} {x : Detector} (h : detect s.siteCode s.detector b = (x, false)) :
    exec (.weatherByte b true) s = .next { s with detector := x } := by
  change Host.Outcome.next (takeWeatherByte b true s) = _
  unfold takeWeatherByte
  rw [h]
  rfl

/-- Settles O38. -/
theorem weatherByteMovesTheDetector : Obligations.WeatherByteMovesTheDetector := by
  unfold Obligations.WeatherByteMovesTheDetector
  intro b s hi lo goes
  have high : codeHigh s.siteCode = hi := codeHigh_eq _
  have low : codeLow s.siteCode = lo := codeLow_eq _
  have expected (p : Nat) : expectedByte s.siteCode p = if p % 2 = 0 then hi else lo := by
    unfold expectedByte
    rw [high, low]
  refine ⟨?_, fun off => ?_, fun n sync few => ?_, fun full => ?_, fun p code few => ?_, fun last other => ?_, fun last match_ => ?_⟩
  · change Host.Outcome.next (takeWeatherByte b false s) = _
    unfold takeWeatherByte framingError
    cases s.detector <;> rfl
  · refine weatherByte_goes ?_
    rw [off]
    rfl
  · refine weatherByte_goes ?_
    rw [sync]
    unfold detect
    dsimp only
    rw [if_pos few]
  · refine weatherByte_goes ?_
    rw [full]
    unfold detect
    dsimp only
    rw [if_neg (Nat.lt_irrefl 6), high]
    split
    · rfl
    · split <;> rfl
  · refine weatherByte_goes ?_
    rw [code]
    unfold detect
    dsimp only
    rw [expected, if_pos few]
    by_cases next : b = if p % 2 = 0 then hi else lo
    · rw [if_pos next, if_pos next]
    · rw [if_neg next, if_neg next]
      split <;> rfl
  · refine weatherByte_goes ?_
    rw [last]
    unfold detect
    dsimp only
    rw [expected]
    simp only [Nat.reduceMod, Nat.one_ne_zero, if_false, other]
    split <;> rfl
  · have done : detect s.siteCode s.detector b = (.sync 0, true) := by
      rw [last]
      unfold detect
      dsimp only
      rw [expected]
      simp only [Nat.reduceMod, Nat.one_ne_zero, if_false, match_, if_true, Nat.lt_irrefl]
    have run : exec (.weatherByte b true) s = .next (serveIfDue (fullMatch { s with detector := .sync 0 })) := by
      change Host.Outcome.next (takeWeatherByte b true s) = _
      unfold takeWeatherByte
      rw [done]
      dsimp only
      rw [if_neg (by decide), if_pos rfl]
      rfl
    have leaves := fullMatch_leaves { s with detector := .sync 0 }
    refine ⟨_, run, rfl, (leaves 0).2.1, (leaves 0).2.2, fun c => ?_⟩
    rw [(leaves c).1]
    exact underExternal_judged _

end Machine
end Sys2Proof
end

section
/-! PROOFS. SET FEED (O19), the melt requests (O21), RELEASE TAG (O24) and SET CLOCK (O25). -/

namespace Sys2Proof
namespace Machine

/-! ### SET FEED (R80) -/

/-- Settles O19. -/
theorem setFeedShedsDownToTheNewCapacity : Obligations.SetFeedShedsDownToTheNewCapacity := by
  unfold Obligations.SetFeedShedsDownToTheNewCapacity
  intro label params s r asked taken ready
  refine (runRequest_ready r (setFeed asked) s ready).trans (congrArg _ ?_)
  obtain ⟨p, e⟩ := begun_port r s
  have most : Config.maxFeed = 4000 := rfl
  unfold State.replied setFeed answeredWith State.modFeed
  rw [e, most]
  dsimp only
  by_cases short : taken < sumDrive s.drive
  · rw [if_pos short, if_pos short, endRequest_answered]
  · rw [if_neg short, if_neg short, endRequest_answered]

/-! ### SET CLOCK (R60) -/

theorem toNat_field32 (b3 b2 b1 b0 : Byte) : field32 [b3, b2, b1, b0] 0 = (b3 ++ b2 ++ b1 ++ b0).toNat := by
  unfold field32 field24 field16 field8
  simp only [List.getD_cons_zero, List.getD_cons_succ, BitVec.toNat_append]
  rw [← Nat.shiftLeft_add_eq_or_of_lt b2.isLt, ← Nat.shiftLeft_add_eq_or_of_lt b1.isLt, ← Nat.shiftLeft_add_eq_or_of_lt b0.isLt]
  simp only [Nat.shiftLeft_eq, Nat.reducePow]

/-- Settles O25. -/
theorem setClockReplacesOnlyTheArrayClock : Obligations.SetClockReplacesOnlyTheArrayClock := by
  unfold Obligations.SetClockReplacesOnlyTheArrayClock
  intro label b3 b2 b1 b0 s r ready
  refine (runRequest_ready r (setClock (field32 [b3, b2, b1, b0] 0)) s ready).trans (congrArg _ ?_)
  obtain ⟨p, e⟩ := begun_port r s
  have value : BitVec.ofNat 32 (field32 [b3, b2, b1, b0] 0) = b3 ++ b2 ++ b1 ++ b0 := by
    rw [toNat_field32]
    exact (BitVec.ofNat_toNat _ _).trans (BitVec.setWidth_eq _)
  unfold setClock
  rw [e, value]
  rfl

/-! ### The melt requests (R127, R133) -/

theorem modeOf_eq (n : Nat) : modeOf n =
    if n = 0 then some .off else if n = 1 then some .auto else if n = 2 then some .forced else none := by
  rcases n with _ | _ | _ | n
  · rfl
  · rfl
  · rfl
  · simp [modeOf]

theorem settingsValid_iff (a : LimitsArgs) : settingsValid a = true ↔
    a.meltFloor ≤ 8 ∧ 16 ≤ a.settings.iceLimit ∧ a.settings.iceLimit ≤ 1023 ∧ 1000 ≤ a.settings.snowLinger ∧
    a.settings.snowLinger ≤ 720000 ∧ a.settings.settleMargin ≤ 1000 ∧ 1 ≤ a.settings.arrivalWindow ∧
    a.settings.arrivalWindow ≤ 1000 ∧ 5000 ≤ a.settings.watchFloor ∧ a.settings.watchFloor ≤ 90000 := by
  unfold settingsValid
  simp only [Bool.and_eq_true, decide_eq_true_eq, and_assoc]

theorem dishesNamed_eq (n : Byte) : dishesNamed n.toNat = if n = 0xFF then some allDishes else (asFin 48 n.toNat).map fun d => [d] := by
  have all : n.toNat = 0xFF ↔ n = 0xFF := by
    rw [← BitVec.toNat_inj]
    rfl
  unfold dishesNamed
  simp only [all]

/-- Settles O21. -/
theorem meltRequestsReplaceSettings : Obligations.MeltRequestsReplaceSettings := by
  unfold Obligations.MeltRequestsReplaceSettings
  refine ⟨?_, ?_, modeOf_eq, fun d s => ⟨computeDemand_eq d s, rfl, judgeIced_eq d s⟩, fun f s => rfl⟩
  · intro label n m v s r duty ready
    refine (runRequest_ready r (setMeltMode ⟨n.toNat, m.toNat, v.toNat⟩) s ready).trans (congrArg _ ?_)
    obtain ⟨p, e⟩ := begun_port r s
    unfold State.replied setMeltMode
    rw [e]
    dsimp only
    rw [dishesNamed_eq]
    generalize (if n = 0xFF then some allDishes else (asFin 48 n.toNat).map fun d => [d]) = named
    rcases named with _ | ds
    · rfl
    rcases modeOf m.toNat with _ | mode
    · rfl
    have none : (decide (mode = .forced) && decide (v.toNat = 0)) = true ↔ mode = .forced ∧ v = 0 := by
      rw [Bool.and_eq_true, decide_eq_true_iff, decide_eq_true_iff, ← BitVec.toNat_inj]
      rfl
    dsimp only
    simp only [none]
    by_cases zero : mode = .forced ∧ v = 0
    · rw [if_pos zero, if_pos zero]
      rfl
    · rw [if_neg zero, if_neg zero]
      unfold answeredWith
      rw [endRequest_answered]
      unfold dutyAnswer setModeOf
      have clamped : (decide (mode = .forced) && decide (16 < v.toNat)) = decide (mode = .forced ∧ 16 < v.toNat) := (Bool.decide_and ..).symm
      rw [clamped] <;> rfl
  · intro label params s r a ready
    refine (runRequest_ready r (setMeltLimits a) s ready).trans (congrArg _ ?_)
    obtain ⟨p, e⟩ := begun_port r s
    unfold State.replied setMeltLimits
    rw [e]
    simp only [settingsValid_iff]
    split
    · unfold answeredWith
      rw [endRequest_answered]
      unfold replaceSettings
      rfl
    · rfl

/-! ### RELEASE TAG (R152 to R154) -/

theorem field16_le (ps : List Byte) (i : Nat) : field16 ps i ≤ 65535 := by
  unfold field16 field8
  have high := (ps.getD i 0).isLt
  have low := (ps.getD (i + 1) 0).isLt
  omega

theorem holder_iff (ps : List Byte) (i : Nat) :
    (decide (field16 ps i = 0) || decide (65535 < field16 ps i)) = true ↔ field16 ps i = 0 := by
  have := field16_le ps i
  rw [Bool.or_eq_true, decide_eq_true_iff, decide_eq_true_iff]
  omega

/-- R153, R154: what a coverage lost does. -/
theorem loseCoverage_eq (d : DishNo) (was is : Coverage) (s : State) : loseCoverage d (was.beyond is) s =
    (let s1 :=
      if ((was.az = true ∧ is.az = false) ∨ (was.el = true ∧ is.el = false)) ∧ s.dishes[d].motion = .locked then settle d s else s
    if was.melt = true ∧ is.melt = false then s1.modCircuit d fun c => { c with demand := s1.demandOf d } else s1) := by
  have motion : ((was.beyond is).motion && s.dishes[d].motion == .locked) = true ↔
      ((was.az = true ∧ is.az = false) ∨ (was.el = true ∧ is.el = false)) ∧ s.dishes[d].motion = .locked := by
    unfold Coverage.motion Coverage.beyond
    simp only [Bool.and_eq_true, Bool.or_eq_true, Bool.not_eq_true', beq_iff_eq]
  have melt : (was.beyond is).melt = true ↔ was.melt = true ∧ is.melt = false := by
    unfold Coverage.beyond
    simp only [Bool.and_eq_true, Bool.not_eq_true']
  unfold loseCoverage computeDemand
  simp only [motion, melt]

/-- Settles O24. -/
theorem releaseTagEmptiesTheSlot : Obligations.ReleaseTagEmptiesTheSlot := by
  unfold Obligations.ReleaseTagEmptiesTheSlot
  intro label params s r a ready
  refine (runRequest_ready r (releaseTag a) s ready).trans (congrArg _ ?_)
  obtain ⟨p, e⟩ := begun_port r s
  unfold State.replied releaseTag
  rw [e]
  rcases asFin 64 a.tag with _ | k
  · rfl
  dsimp only
  have holder : (decide (a.holder = 0) || decide (65535 < a.holder)) = true ↔ a.holder = 0 := holder_iff params 1
  simp only [holder]
  split
  · rfl
  cases s.tags[k] with
  | none => rfl
  | some t =>
    dsimp only
    split
    · rfl
    · unfold answeredWith
      rw [endRequest_answered]
      unfold emptySlot
      dsimp only
      rw [loseCoverage_eq]
      rfl

end Machine
end Sys2Proof
end

section
/-! PROOFS. PLACE TAG (O22): its checks, the slot it fills, and what new coverage does with the dish. -/

namespace Sys2Proof
namespace Machine

/-! ### The checks (R145) -/

theorem scopeOf_eq (n : Nat) : scopeOf n =
    if n = 0 then some .az else if n = 1 then some .el else if n = 2 then some .motion else if n = 3 then some .melt
    else if n = 4 then some .all else none := by
  rcases n with _ | _ | _ | _ | _ | n
  · rfl
  · rfl
  · rfl
  · rfl
  · rfl
  · simp [scopeOf]

theorem overlapping_iff (s : State) (holder : Nat) (d : DishNo) (scope : Scope) : s.overlapping holder d scope = true ↔
    ∃ e ∈ tagsOn s d, e.2.holder = holder ∧ e.2.scope.overlaps scope = true := by
  unfold State.overlapping
  simp only [List.any_eq_true, Bool.and_eq_true, beq_iff_eq]

theorem leftGroup_eq (d : DishNo) (before after : State) : leftGroup d before after =
    decide ((∃ g : GroupNo, d ∈ before.memberDishes g) ∧ ∀ g : GroupNo, d ∉ after.memberDishes g) := by
  rw [Bool.eq_iff_iff, decide_eq_true_iff]
  unfold leftGroup
  rw [Bool.and_eq_true, memberOf_isSome_iff, Option.isNone_iff_eq_none, memberOf_none_iff, unlisted_iff]

/-- R145: the results of an accepted PLACE TAG, as the manual lists them. -/
theorem placedResults_eq (k : TagNo) (holder : Nat) (d : DishNo) (scope : Scope) (stamp : Clock) (before after : State) :
    placedResults k ⟨holder, d, scope, .stopping, stamp⟩ before after =
      put8 k.val ++ put8 ((after.tags[k].map (fun x => x.state.number)).getD 0) ++ put32 stamp.toNat ++
      putCoverage (after.coverage d) ++ put8 after.dishes[d].motion.number ++
      putFlag ((∃ g : GroupNo, d ∈ before.memberDishes g) ∧ ∀ g : GroupNo, d ∉ after.memberDishes g) := by
  unfold placedResults
  rw [leftGroup_eq]
  cases after.tags[k] <;> rfl

/-! ### What new coverage does (R146, R147) -/

theorem meltLockout_eq (d : DishNo) (s : State) : meltLockout d s = { s with
    circuits := s.circuits.set d { s.circuits[d] with demand := 0, window := none }
    grants := s.grants.set d { s.grants[d] with duty := 0 }
    bus := (postHeat d false s).bus
    serveDue := if s.grants[d].reservation = 0 then s.serveDue else true } := by
  have posted : postHeat d false ((s.modCircuit d fun c => { c with demand := 0, window := none }).modGrant d fun g => { g with duty := 0 }) =
      { s with
        circuits := s.circuits.set d { s.circuits[d] with demand := 0, window := none }
        grants := s.grants.set d { s.grants[d] with duty := 0 }
        bus := (postHeat d false s).bus } := by
    rw [postHeat_touches, postHeat_bus (s := s) d false]
    · rfl
    · rfl
  unfold meltLockout
  dsimp only
  rw [posted]
  split <;> rfl

/-- R54, R10: the removal of a listed dish that gains motion coverage. -/
theorem lockMember_eq (g : GroupNo) (m : Member) (s : State) : lockMember g m s =
    removeMember g m.dish .locked
      (fun t => if m.sub = .moving ∨ t.dishes[m.dish].motion = .stopping then goStopping m.dish false t else settle m.dish t) s := by
  unfold lockMember
  simp only [Bool.or_eq_true, decide_eq_true_eq]

theorem memberOf_dish {s : State} {d : DishNo} {g : GroupNo} {m : Member} (h : s.memberOf d = some (g, m)) : m.dish = d := by
  obtain ⟨_, _, _, same⟩ := memberOf_some h
  exact same

theorem takeLock_eq (d : DishNo) (gained : Coverage) (s : State) : takeLock d gained s =
    (let locked := { s with dishes := s.dishes.set d { s.dishes[d] with motion := .locked } }
    let stopped := fun (g : GroupNo) (m : Member) =>
      removeMember g d .locked
        (fun t => if m.sub = .moving ∨ t.dishes[d].motion = .stopping then goStopping d false t else settle d t) s
    match s.dishes[d].motion, s.memberOf d with
    | .free, _ => locked
    | .member, some (g, m) => stopped g m
    | .stopping, some (g, m) => stopped g m
    | .stowQueued, _ =>
      if gained.el = true then
        { locked with
          stowQueue := s.stowQueue.filter (fun e => e ≠ d)
          serveDue := if s.stowQueue.head? = some d then true else s.serveDue }
      else s
    | .stowing, _ => if gained.el = true then goStopping d false s else s
    | _, _ => s) := by
  have listed : ∀ g m, s.memberOf d = some (g, m) → lockMember g m s =
      removeMember g d .locked
        (fun t => if m.sub = .moving ∨ t.dishes[d].motion = .stopping then goStopping d false t else settle d t) s := by
    intro g m h
    obtain rfl := memberOf_dish h
    exact lockMember_eq g m s
  unfold takeLock
  cases hm : s.dishes[d].motion with
  | free => rfl
  | member | stopping =>
    cases ho : s.memberOf d with
    | none => rfl
    | some e => exact listed e.1 e.2 ho
  | stowQueued =>
    dsimp only
    rw [leaveQueue_eq]
    rfl
  | stowing => rfl
  | restrained | locked | stowed | cut | unreachable => rfl

theorem gainCoverage_tags (d : DishNo) (gained : Coverage) (s : State) : (gainCoverage d gained s).tags = s.tags := by
  have moved : (if gained.motion then serveIfDue (takeLock d gained s) else s).tags = s.tags := by
    split
    · exact ((takeLock_steady d gained s).trans (serveIfDue_steady _)).tags
    · rfl
  unfold gainCoverage
  dsimp only
  split
  · rw [meltLockout_eq]
    exact moved
  · exact moved

/-! ### The slot filled (R145, R148) -/

theorem placedState_held_iff (s : State) (d : DishNo) : s.placedState d = .held ↔
    s.bus[d].link = .active ∧
      (s.dishes[d].motion = .restrained ∨ s.dishes[d].motion = .free ∨ s.dishes[d].motion = .locked ∨
        s.dishes[d].motion = .stowQueued ∨ s.dishes[d].motion = .stowed ∨
        (s.dishes[d].motion = .member ∧ s.movingMember d = false)) ∧
      ∃ o, s.dishes[d].observed = some o ∧ (o.azState = .still ∨ o.azState = .arrived) ∧ (o.elState = .still ∨ o.elState = .arrived) := by
  have settled : s.settledForTag d = true ↔ s.dishes[d].motion = .restrained ∨ s.dishes[d].motion = .free ∨ s.dishes[d].motion = .locked ∨
      s.dishes[d].motion = .stowQueued ∨ s.dishes[d].motion = .stowed ∨ (s.dishes[d].motion = .member ∧ s.movingMember d = false) := by
    unfold State.settledForTag
    cases s.dishes[d].motion <;> simp
  have rests : (s.dishes[d].observed.map Observed.atRest).getD false = true ↔
      ∃ o, s.dishes[d].observed = some o ∧ (o.azState = .still ∨ o.azState = .arrived) ∧ (o.elState = .still ∨ o.elState = .arrived) := by
    cases s.dishes[d].observed with
    | none => simp
    | some o => simp [Observed.atRest_iff]
  unfold State.placedState
  rw [ite_eq_left_iff]
  simp only [reduceCtorEq, imp_false, not_not]
  rw [Bool.and_eq_true, Bool.and_eq_true, linked_iff, settled, rests, and_assoc]

theorem placedState_stopping {s : State} {d : DishNo} (h : s.placedState d ≠ .held) : s.placedState d = .stopping := by
  cases hp : s.placedState d with
  | stopping => rfl
  | held => exact absurd hp h

theorem fillSlot_eq (k : TagNo) (tag : Tag) (s : State) :
    (let d := tag.dish
    let s1 := s.setTag k (some tag)
    let u := gainCoverage d ((s1.coverage d).beyond (s.coverage d)) s1
    fillSlot k tag s = serveIfDue (u.setTag k (some { tag with state := u.placedState d }))) := by
  dsimp only
  unfold fillSlot setTagState
  dsimp only
  rw [gainCoverage_tags]
  have filled : (s.setTag k (some tag)).tags[k] = some tag := State.setTag_same ..
  rw [filled]
  rfl

/-- Settles O22. -/
theorem placeTagFillsTheLowestEmptySlot : Obligations.PlaceTagFillsTheLowestEmptySlot := by
  unfold Obligations.PlaceTagFillsTheLowestEmptySlot
  refine ⟨?_, scopeOf_eq, fun k tag s => ?_, fun k tag s => ?_, fun d gained s => ?_, meltLockout_eq⟩
  · intro label params s r a ready
    refine (runRequest_ready r (placeTag a) s ready).trans (congrArg _ ?_)
    obtain ⟨p, e⟩ := begun_port r s
    unfold State.replied placeTag
    rw [e]
    rcases asFin 48 a.dish with _ | d
    · rfl
    rcases scopeOf a.scope with _ | scope
    · rfl
    dsimp only
    have holder : (decide (a.holder = 0) || decide (65535 < a.holder)) = true ↔ a.holder = 0 := holder_iff params 0
    have twice : State.overlapping { s with port := p } a.holder d scope = true ↔ _ := overlapping_iff s a.holder d scope
    have head : (emptySlots { s with port := p }).head? = allTags.find? (fun k => s.tags[k].isNone) := List.head?_filter ..
    simp only [holder, Bool.not_eq_true', twice]
    split
    · rfl
    split
    · rfl
    split
    · rfl
    rw [← head]
    cases emptySlots { s with port := p } with
    | nil => rfl
    | cons k rest =>
      dsimp only [List.head?_cons]
      unfold answeredWith
      rw [endRequest_answered, placedResults_eq]
      rfl
  · let u := gainCoverage tag.dish (((s.setTag k (some tag)).coverage tag.dish).beyond (s.coverage tag.dish)) (s.setTag k (some tag))
    have tags : (fillSlot k tag s).tags = s.tags.set k (some { tag with state := u.placedState tag.dish }) := by
      rw [fillSlot_eq, (serveIfDue_steady _).tags]
      unfold State.setTag
      dsimp only
      rw [gainCoverage_tags]
      exact Vector.set_set ..
    rw [tags]
    exact ⟨⟨_, getElem_set_same _ _ _⟩, fun j hj => getElem_set_other _ _ _ _ hj⟩
  · intro d s1 was is u resting
    have filled : fillSlot k tag s = serveIfDue (u.setTag k (some { tag with state := u.placedState d })) := fillSlot_eq k tag s
    have held : u.placedState d = .held ↔ resting := placedState_held_iff u d
    rw [filled]
    exact ⟨fun h => by rw [held.mpr h]; rfl, fun h => by rw [placedState_stopping (mt held.mp h)]; rfl⟩
  · unfold gainCoverage
    rw [takeLock_eq]
    simp only [motionCoverage_iff] <;> rfl

end Machine
end Sys2Proof
end

section
/-! PROOFS. Serves of the stow queue (O40). -/

namespace Sys2Proof
namespace Machine

/-! ### A stow move begins (R15, R118) -/

theorem startStow_eq (d : DishNo) (s : State) : startStow d s = { s with
    dishes := s.dishes.set d { s.dishes[d] with
      motion := .stowing, group := none, targets := some ⟨(s.position d).az, s.dishes[d].desc.stowEl⟩ }
    stowMoves := s.stowMoves.set d (some (stowMoveOf s d))
    bus := (postMotion d (.setpoint (stowSetpoint s d)) s).bus } := by
  unfold startStow
  rw [postMotion_touches, postMotion_bus (s := s) d (.setpoint (stowSetpoint s d))]
  · rfl
  · rfl

/-! ### The serve of a head (R74) -/

theorem pStow_fits (need : Nat) (s : State) : (need : Int) ≤ s.pStow ↔ need + sumDrive s.drive ≤ s.feed.capacity := by
  unfold State.pStow
  omega

/-- R74: what is shed for a head is what its power and all reservations exceed the capacity by. -/
theorem shedForStow_eq (need : Nat) (s : State) :
    shedForStow need s = shed 0 (need + sumDrive s.drive + sumMelt s.grants - s.feed.capacity) s := by
  have excess : ((need : Int) - s.pFree).toNat = need + sumDrive s.drive + sumMelt s.grants - s.feed.capacity := by
    unfold State.pFree
    omega
  unfold shedForStow
  rw [excess]

theorem serveHead_eq (d : DishNo) (s : State) :
    (let need := s.dishes[d].desc.pDrive
    let u := shed 0 (need + sumDrive s.drive + sumMelt s.grants - s.feed.capacity) s
    serveHead d s = startStow d { u with drive := s.drive.set d (if need = 0 then ⟨0, none⟩ else ⟨need, some .stow⟩) }) := by
  dsimp only
  unfold serveHead
  rw [grantDrive_eq, shedForStow_eq]
  have drive := congrArg State.drive (shed_touches 0
    (s.dishes[d].desc.pDrive + sumDrive s.drive + sumMelt s.grants - s.feed.capacity) s)
  dsimp only at drive
  rw [drive]

/-- R74, R118: the record, the reservation and the stow move of a head served, and of every other dish. -/
theorem serveHead_tables (d : DishNo) (s : State) :
    (serveHead d s).stowQueue = s.stowQueue ∧ (serveHead d s).serveDue = s.serveDue ∧
    (serveHead d s).drive = s.drive.set d (DriveRes.withKind .stow ⟨s.dishes[d].desc.pDrive, none⟩) ∧
    (∃ move, (serveHead d s).stowMoves = s.stowMoves.set d (some move)) ∧
    ∃ targets, (serveHead d s).dishes = s.dishes.set d { s.dishes[d] with motion := .stowing, group := none, targets := targets } := by
  have shedding := shed_touches 0 (s.dishes[d].desc.pDrive + sumDrive s.drive + sumMelt s.grants - s.feed.capacity) s
  have served := serveHead_eq d s
  dsimp only at served
  generalize shed 0 (s.dishes[d].desc.pDrive + sumDrive s.drive + sumMelt s.grants - s.feed.capacity) s = u at shedding served
  rw [served]
  have dishes : u.dishes = s.dishes := by rw [shedding]
  have moves : u.stowMoves = s.stowMoves := by rw [shedding]
  have record (v : State) : ∃ targets, (startStow d v).dishes =
      v.dishes.set d { v.dishes[d] with motion := .stowing, group := none, targets := targets } := ⟨_, by rw [startStow_eq]⟩
  have move (v : State) : ∃ move, (startStow d v).stowMoves = v.stowMoves.set d (some move) := ⟨_, by rw [startStow_eq]⟩
  refine ⟨?_, ?_, ?_, ?_, ?_⟩
  · rw [startStow_eq, shedding]
  · rw [startStow_eq, shedding]
  · rw [startStow_eq]
    rfl
  · rw [← moves]
    exact move { u with drive := _ }
  · rw [← dishes]
    exact record { u with drive := _ }

/-! ### The serve (R116) -/

theorem serve_nil {s : State} (h : s.stowQueue = []) : serve s = { s with serveDue := false } := by
  unfold serve
  rw [h]
  rfl

/-- R116: a serve grants the head and goes on, or stops at a head that does not fit. -/
theorem serve_cons {s : State} {d : DishNo} {rest : List DishNo} (h : s.stowQueue = d :: rest) : serve s =
    if s.dishes[d].desc.pDrive + sumDrive s.drive ≤ s.feed.capacity then serve (serveHead d { s with stowQueue := rest, serveDue := false })
    else { s with serveDue := false } := by
  have goes : serve s =
      if (s.dishes[d].desc.pDrive : Int) ≤ s.pStow then serveLoop rest.length (serveHead d { s with stowQueue := rest, serveDue := false })
      else { s with serveDue := false } := by
    unfold serve
    rw [h, List.length_cons, serveLoop]
    rfl
  obtain ⟨queue, due, -⟩ := serveHead_tables d { s with stowQueue := rest, serveDue := false }
  have again : serve (serveHead d { s with stowQueue := rest, serveDue := false }) =
      serveLoop rest.length (serveHead d { s with stowQueue := rest, serveDue := false }) := by
    generalize serveHead d { s with stowQueue := rest, serveDue := false } = v at queue due
    dsimp only at queue due
    have quiet : { v with serveDue := false } = v := by rw [← due]
    unfold serve
    rw [quiet, queue]
  rw [goes, again]
  simp only [pStow_fits]

/-- What a serve leaves: the dishes served, in queue order, under way to stow; all others as they were; and a head that does not fit. -/
structure Served (s t : State) (served : List DishNo) : Prop where
  queue  : s.stowQueue = served ++ t.stowQueue
  moves  : ∀ d ∈ served, t.dishes[d].motion = .stowing ∧ t.stowMoves[d].isSome = true ∧
    t.drive[d] = DriveRes.withKind .stow ⟨s.dishes[d].desc.pDrive, none⟩
  others : ∀ d : DishNo, d ∉ served → t.dishes[d] = s.dishes[d] ∧ t.drive[d] = s.drive[d] ∧ t.stowMoves[d] = s.stowMoves[d]
  stops  : ∀ d rest, t.stowQueue = d :: rest → t.pStow < t.dishes[d].desc.pDrive

theorem Served.none {s : State} (stops : ∀ d rest, s.stowQueue = d :: rest → s.pStow < s.dishes[d].desc.pDrive) :
    Served s { s with serveDue := false } [] where
  queue := rfl
  moves := nofun
  others _ _ := ⟨rfl, rfl, rfl⟩
  stops := stops

theorem serve_served (queue : List DishNo) (s : State) (h : s.stowQueue = queue) (nodup : queue.Nodup) :
    ∃ served, Served s (serve s) served := by
  induction queue generalizing s with
  | nil =>
    refine ⟨[], ?_⟩
    rw [serve_nil h]
    exact .none fun d rest e => by rw [h] at e; cases e
  | cons d rest ih =>
    rw [List.nodup_cons] at nodup
    obtain ⟨fresh, nodup⟩ := nodup
    rw [serve_cons h]
    split
    case isTrue fits =>
      obtain ⟨hQueue, -, hDrive, ⟨move, hMoves⟩, ⟨targets, hDishes⟩⟩ := serveHead_tables d { s with stowQueue := rest, serveDue := false }
      generalize serveHead d { s with stowQueue := rest, serveDue := false } = v at hQueue hDrive hMoves hDishes ⊢
      dsimp only at hQueue hDrive hMoves hDishes
      obtain ⟨served, later⟩ := ih v hQueue nodup
      have queued := later.queue
      rw [hQueue] at queued
      have out : d ∉ served := fun hd => fresh (by rw [queued]; exact List.mem_append_left _ hd)
      obtain ⟨dDish, dDrive, dMove⟩ := later.others d out
      refine ⟨d :: served, by rw [h, queued]; rfl, fun e he => ?_, fun e he => ?_, later.stops⟩
      · rcases List.mem_cons.mp he with rfl | he
        · rw [dDish, dDrive, dMove, hDishes, hDrive, hMoves, getElem_set_same, getElem_set_same, getElem_set_same]
          exact ⟨rfl, rfl, rfl⟩
        · have ne : e ≠ d := fun same => out (same ▸ he)
          obtain ⟨motion, hasMove, drive⟩ := later.moves e he
          refine ⟨motion, hasMove, drive.trans ?_⟩
          rw [hDishes, getElem_set_other _ _ _ _ ne]
      · obtain ⟨ne, he⟩ := not_or.mp (mt List.mem_cons.mpr he)
        obtain ⟨eDish, eDrive, eMove⟩ := later.others e he
        rw [eDish, eDrive, eMove, hDishes, hDrive, hMoves, getElem_set_other _ _ _ _ ne, getElem_set_other _ _ _ _ ne,
          getElem_set_other _ _ _ _ ne]
        exact ⟨rfl, rfl, rfl⟩
    case isFalse tooMuch =>
      refine ⟨[], .none fun e rest' he => ?_⟩
      rw [h] at he
      cases he
      exact Int.not_le.mp (mt (pStow_fits _ s).mp tooMuch)

/-- Settles O40. -/
theorem serveStopsAtTheFirstHeadThatDoesNotFit : Obligations.ServeStopsAtTheFirstHeadThatDoesNotFit := by
  unfold Obligations.ServeStopsAtTheFirstHeadThatDoesNotFit
  refine ⟨fun s nodup => ?_, fun s => serve_nil, fun s d rest h => ?_⟩
  · obtain ⟨served, h⟩ := serve_served s.stowQueue s rfl nodup
    refine ⟨served, h.queue, h.moves, fun d hd => ?_, h.stops, ?_⟩
    · obtain ⟨dish, drive, -⟩ := h.others d hd
      exact ⟨dish, drive⟩
    · rw [serve_touches]
  · rw [serve_cons h, serveHead_eq] <;> rfl

end Machine
end Sys2Proof
end

section
/-! PROOFS. The requests to the wind cells, a cell's judgement, its visits, and the direct conversion to a stow move (O20). -/

namespace Sys2Proof
namespace Machine

/-! ### The cells (R106, R107) -/

theorem toNat_field16 (hi lo : Byte) : field16 [hi, lo] 0 = (hi ++ lo).toNat := by
  unfold field16 field8
  simp only [List.getD_cons_zero, List.getD_cons_succ, BitVec.toNat_append]
  rw [← Nat.shiftLeft_add_eq_or_of_lt lo.isLt]
  simp only [Nat.shiftLeft_eq, Nat.reducePow]

theorem limitsValid_iff (l : WindLimits) : ¬ limitsValid l = true ↔
    700 < l.watch ∨ 700 < l.stowMean ∨ 700 < l.gust ∨ 700 < l.release ∨ l.holdDown < 100 ∨ 360000 < l.holdDown ∨
    l.stowMean ≤ l.release ∨ l.gust < l.stowMean ∨ l.stowMean ≤ l.watch := by
  unfold limitsValid
  simp only [Bool.and_eq_true, decide_eq_true_eq]
  omega

theorem withLimits_eq (l : WindLimits) (x : Cell) : x.withLimits l =
    if l.stowMean ≤ x.mean then
      { x with limits := l, reasons := { x.reasons with wind := true }, holdDown := some l.holdDown }
    else { x with limits := l, holdDown := x.holdDown.map (fun h => min h l.holdDown) } := rfl

theorem cellsNamed_eq (n : Byte) : cellsNamed n.toNat = if n = 0xFF then some allCells else (asFin 8 n.toNat).map fun c => [c] := by
  have all : n.toNat = 0xFF ↔ n = 0xFF := by
    rw [← BitVec.toNat_inj]
    rfl
  unfold cellsNamed
  simp only [all]

theorem stowLine_iff (s : State) : s.stowLine = true ↔ ∃ c : CellNo, s.cells[c].state = .stow := by
  unfold State.stowLine
  rw [List.any_eq_true]
  simp only [beq_iff_eq]
  exact ⟨fun ⟨c, _, h⟩ => ⟨c, h⟩, fun ⟨c, h⟩ => ⟨c, List.mem_finRange c, h⟩⟩

theorem judgedState_eq (r : Reasons) (mean watch : Nat) : judgedState r mean watch =
    if r.wind = true ∨ r.gust = true ∨ r.sensor = true ∨ r.forced = true ∨ r.external = true then .stow
    else if watch ≤ mean then .watch
    else .calm := by
  have any : r.any = true ↔ r.wind = true ∨ r.gust = true ∨ r.sensor = true ∨ r.forced = true ∨ r.external = true := by
    unfold Reasons.any
    simp only [Bool.or_eq_true, or_assoc]
  unfold judgedState
  simp only [any]

theorem cellDishes_eq (s : State) (c : CellNo) : s.cellDishes c =
    allDishes.filter (fun d => s.dishes[d].present = true ∧ s.dishes[d].desc.cell = c) := by
  unfold State.cellDishes
  simp only [Bool.decide_and, Bool.decide_eq_true]

theorem judgeCell_eq (c : CellNo) (s : State) :
    (let x := s.cells[c]
    let new := judgedState x.reasons x.mean x.limits.watch
    let s1 := raise .stowChanged [c.val] { s with cells := s.cells.set c { x with state := new } }
    judgeCell c s =
      if new = x.state then s
      else if new = .stow then serve ((s.cellDishes c).foldl (fun t d => enterStow d t) s1)
      else if x.state = .stow then serve ((s.cellDishes c).foldl (fun t d => leaveStow d t) s1)
      else s1) := rfl

/-! ### The visits (R113, R123) -/

theorem enterStow_eq (d : DishNo) (s : State) : enterStow d s =
    match s.dishes[d].motion, s.memberOf d with
    | .free, _ => joinQueue d s
    | .locked, _ => if (s.coverage d).el = true then s else joinQueue d s
    | .member, some (g, m) => removeMember g d .stow (if m.sub = .moving then convertOrHold d else settle d) s
    | .stopping, some (g, _) => removeMember g d .stow id s
    | _, _ => s := by
  unfold enterStow
  cases s.dishes[d].motion <;> cases s.memberOf d <;> rfl

/-- R114, R75: the conversion counts the dish's own level as free. -/
theorem convertOrHold_eq (d : DishNo) (s : State) :
    (let need := s.dishes[d].desc.pDrive
    let u := shed 0 (need + sumDrive s.drive + sumMelt s.grants - (s.feed.capacity + s.drive[d].level)) s
    convertOrHold d s =
      if need + sumDrive s.drive ≤ s.feed.capacity + s.drive[d].level then
        startStow d { u with drive := s.drive.set d (if need = 0 then ⟨0, none⟩ else ⟨need, some .stow⟩) }
      else goStopping d false s) := by
  dsimp only
  have fits : (s.dishes[d].desc.pDrive : Int) - s.drive[d].level ≤ s.pStow ↔
      s.dishes[d].desc.pDrive + sumDrive s.drive ≤ s.feed.capacity + s.drive[d].level := by
    unfold State.pStow
    omega
  have excess : ((s.dishes[d].desc.pDrive : Int) - s.drive[d].level - s.pFree).toNat =
      s.dishes[d].desc.pDrive + sumDrive s.drive + sumMelt s.grants - (s.feed.capacity + s.drive[d].level) := by
    unfold State.pFree
    omega
  unfold convertOrHold shedForStow
  dsimp only
  simp only [fits]
  rw [excess, grantDrive_eq]
  have drive := congrArg State.drive (shed_touches 0
    (s.dishes[d].desc.pDrive + sumDrive s.drive + sumMelt s.grants - (s.feed.capacity + s.drive[d].level)) s)
  dsimp only at drive
  rw [drive]

/-- Settles O20. -/
theorem windRequestsActAsTheirRulesSay : Obligations.WindRequestsActAsTheirRulesSay := by
  unfold Obligations.WindRequestsActAsTheirRulesSay
  refine ⟨?_, ?_, ?_, ?_, fun c s => ?_, stowLine_iff, enterStow_eq, fun d s => ?_, convertOrHold_eq, fun d s o seen => ?_⟩
  · intro label params s r l ready
    refine (runRequest_ready r (setWindLimits (readWind params)) s ready).trans (congrArg _ ?_)
    obtain ⟨p, e⟩ := begun_port r s
    unfold State.replied setWindLimits
    rw [e]
    rcases asFin 8 (readWind params).cell with _ | c
    · rfl
    dsimp only
    simp only [Bool.not_eq_true', ← Bool.not_eq_true, limitsValid_iff]
    split
    · rfl
    · unfold answeredWith
      rw [endRequest_answered]
      rfl
  · intro label n s r ready
    refine (runRequest_ready r (forceStow n.toNat) s ready).trans (congrArg _ ?_)
    obtain ⟨p, e⟩ := begun_port r s
    unfold State.replied forceStow
    rw [e, cellsNamed_eq]
    generalize (if n = 0xFF then some allCells else (asFin 8 n.toNat).map fun c => [c]) = named
    rcases named with _ | cs
    · rfl
    · dsimp only
      unfold answeredWith
      rw [endRequest_answered]
      rfl
  · intro label n s r ready
    refine (runRequest_ready r (releaseStow n.toNat) s ready).trans (congrArg _ ?_)
    obtain ⟨p, e⟩ := begun_port r s
    unfold State.replied releaseStow
    rw [e]
    rcases asFin 8 n.toNat with _ | c
    · rfl
    dsimp only
    simp only [Bool.and_eq_true, Bool.not_eq_true', Bool.or_eq_true, decide_eq_true_eq]
    split
    · rfl
    split
    · rfl
    · unfold answeredWith
      rw [endRequest_answered]
  · intro label hi lo s r code ready
    have value : BitVec.ofNat 16 (field16 [hi, lo] 0) = code := by
      rw [toNat_field16]
      exact (BitVec.ofNat_toNat _ _).trans (BitVec.setWidth_eq _)
    refine (runRequest_ready r (setSiteCode (field16 [hi, lo] 0)) s ready).trans (congrArg _ ?_)
    obtain ⟨p, e⟩ := begun_port r s
    unfold setSiteCode
    rw [e, value]
    unfold answeredWith detectorFor
    rw [endRequest_answered]
    simp only [Bool.or_eq_true, decide_eq_true_eq]
    rfl
  · have judged := judgeCell_eq c s
    rw [cellDishes_eq] at judged
    simp only [judgedState_eq] at judged
    exact judged
  · unfold leaveStow
    cases s.dishes[d].motion with
    | stowQueued => exact congrArg (settle d) (leaveQueue_eq d s)
    | restrained | free | member | stopping | locked | stowing | stowed | cut | unreachable => rfl
  · have position : s.position d = o.position := State.position_of_observed seen
    rw [startStow_eq]
    unfold stowMoveOf stowSetpoint
    rw [position]
    rfl

end Machine
end Sys2Proof
end

section
/-! PROOFS. HALT GROUP and DISBAND GROUP (O18): a halt member by member, then the group judged. -/

namespace Sys2Proof
namespace Machine

/-! ### One operation for each of a list of entries with distinct keys -/

/-- As `foldl_view`, for entries that name what they change by a key. -/
theorem foldl_view_key {α ι σ γ : Type} {key : α → ι} {view : ι → σ → γ} {f : α → σ → σ} {G : α → γ → γ}
    (other : ∀ a e s, e ≠ key a → view e (f a s) = view e s) (same : ∀ a s, view (key a) (f a s) = G a (view (key a) s)) (as : List α)
    (nodup : (as.map key).Nodup) (s : σ) :
    (∀ a ∈ as, view (key a) (as.foldl (fun t a => f a t) s) = G a (view (key a) s)) ∧
    ∀ e, e ∉ as.map key → view e (as.foldl (fun t a => f a t) s) = view e s := by
  induction as generalizing s with
  | nil => exact ⟨nofun, fun _ _ => rfl⟩
  | cons a as ih =>
    rw [List.map_cons, List.nodup_cons] at nodup
    obtain ⟨fresh, nodup⟩ := nodup
    obtain ⟨first, rest⟩ := ih nodup (f a s)
    rw [List.foldl_cons]
    refine ⟨fun b hb => ?_, fun e he => ?_⟩
    · rcases List.mem_cons.mp hb with rfl | hb
      · rw [rest _ fresh, same]
      · have ne : key b ≠ key a := fun e => fresh (e ▸ List.mem_map_of_mem hb)
        rw [first b hb, other a _ s ne]
    · obtain ⟨ne, he⟩ := not_or.mp (mt List.mem_cons.mpr he)
      rw [rest e he, other a e s ne]

/-! ### A posting, seen from the dish (R165) -/

/-- R165: a bus record after a motion posting. -/
def BusRecord.post (o : Order) (b : BusRecord) : BusRecord :=
  if b.link = .active then
    { b with orders := postList o b.orders, inFlight := b.inFlight.map (InFlight.loseHead (postReplacesHead o b.orders)) }
  else b

theorem postMotion_eq (d : DishNo) (o : Order) (s : State) : postMotion d o s = s.modBus d (BusRecord.post o) := by
  cases h : s.bus[d].link with
  | active =>
    rw [postMotion_of_active o h]
    unfold State.modBus BusRecord.post
    rw [if_pos h]
  | lost =>
    rw [postMotion_of_lost o h]
    unfold State.modBus BusRecord.post
    rw [if_neg (by rw [h]; nofun), set_getElem_self]

theorem postMotion_bus_same (d : DishNo) (o : Order) (s : State) : (postMotion d o s).bus[d] = s.bus[d].post o := by
  rw [postMotion_eq, State.modBus_same]

theorem postMotion_bus_other (d e : DishNo) (o : Order) (s : State) (h : e ≠ d) : (postMotion d o s).bus[e] = s.bus[e] := by
  rw [postMotion_eq, State.modBus_other _ _ _ _ h]

/-! ### Stopping a dish, seen from the dish (R11) -/

/-- What stopping and cutting read and write of one dish. -/
def State.driveView (e : DishNo) (s : State) : DishRecord × DriveRes × BusRecord × Option StowMove :=
  (s.dishes[e], s.drive[e], s.bus[e], s.stowMoves[e])

/-- R11: what stopping, the group kept, makes of a dish. -/
def stoppedView (x : DishRecord × DriveRes × BusRecord × Option StowMove) : DishRecord × DriveRes × BusRecord × Option StowMove :=
  if x.1.motion = .stopping then x
  else ({ x.1 with motion := .stopping }, DriveRes.withKind .stop x.2.1, x.2.2.1.post .hold, none)

theorem goStopping_drive {d : DishNo} {s : State} (keep : Bool) (h : s.dishes[d].motion ≠ .stopping) :
    (goStopping d keep s).drive = s.drive.set d (DriveRes.withKind .stop s.drive[d]) ∧
    (goStopping d keep s).bus = (postMotion d .hold s).bus ∧ (goStopping d keep s).stowMoves = s.stowMoves.set d none := by
  rw [goStopping_of_moving keep h]
  exact ⟨rfl, rfl, rfl⟩

theorem goStopping_view_same (d : DishNo) (s : State) : (goStopping d true s).driveView d = stoppedView (s.driveView d) := by
  unfold stoppedView
  by_cases h : s.dishes[d].motion = .stopping
  · have unchanged : goStopping d true s = s := by
      unfold goStopping
      dsimp only
      rw [if_pos h]
      rfl
    rw [if_pos (show (s.driveView d).1.motion = .stopping from h), unchanged]
  · obtain ⟨drive, bus, moves⟩ := goStopping_drive true h
    rw [if_neg (show ¬ (s.driveView d).1.motion = .stopping from h)]
    unfold State.driveView
    rw [goStopping_dishes, drive, bus, moves, postMotion_bus_same, getElem_set_same, getElem_set_same, getElem_set_same]
    rfl

theorem goStopping_view_other (d e : DishNo) (keep : Bool) (s : State) (he : e ≠ d) : (goStopping d keep s).driveView e = s.driveView e := by
  unfold State.driveView
  by_cases h : s.dishes[d].motion = .stopping
  · rw [goStopping_of_stopping keep h, goStopping_dishes]
    dsimp only
    rw [getElem_set_other _ _ _ _ he]
  · obtain ⟨drive, bus, moves⟩ := goStopping_drive keep h
    rw [goStopping_dishes, drive, bus, moves, postMotion_bus_other _ _ _ _ he, getElem_set_other _ _ _ _ he, getElem_set_other _ _ _ _ he,
      getElem_set_other _ _ _ _ he]

/-! ### A halt, member by member (R57) -/

theorem haltMember_view_same (g : GroupNo) (m : Member) (s : State) :
    (haltMember g m s).driveView m.dish = if m.sub = .moving then stoppedView (s.driveView m.dish) else s.driveView m.dish := by
  unfold haltMember
  split
  · exact goStopping_view_same m.dish s
  · rfl

theorem haltMember_view_other (g : GroupNo) (m : Member) (e : DishNo) (s : State) (he : e ≠ m.dish) :
    (haltMember g m s).driveView e = s.driveView e := by
  unfold haltMember
  split
  · exact goStopping_view_other m.dish e true s he
  · rfl

/-- The members whose dishes a list of halted members names. -/
def haltedMember (ms : List Member) (e : Member) : Member :=
  if ∃ m ∈ ms, m.sub = .moving ∧ m.dish = e.dish then { e with deadline := none } else e

theorem haltMembers_groups (g : GroupNo) (ms : List Member) {s : State} {gr : Group} (hg : s.groups[g] = some gr) :
    (ms.foldl (fun t m => haltMember g m t) s).groups = s.groups.set g (some { gr with members := gr.members.map (haltedMember ms) }) := by
  induction ms generalizing s gr with
  | nil =>
    have same : gr.members.map (haltedMember []) = gr.members := by
      refine (List.map_congr_left fun e _ => ?_).trans (List.map_id _)
      unfold haltedMember
      rw [if_neg (by simp)]
      rfl
    rw [same, ← hg, set_getElem_self]
    rfl
  | cons m ms ih =>
    rw [List.foldl_cons]
    by_cases moving : m.sub = .moving
    · have once : (haltMember g m s).groups = s.groups.set g (some
          { gr with members := gr.members.map (fun e => if e.dish = m.dish then { e with deadline := none } else e) }) := by
        have kept : (goStopping m.dish true s).groups = s.groups := by rw [goStopping_touches]
        unfold haltMember
        rw [if_pos moving, modMember_eq (gr := gr) _ _ (by rw [kept]; exact hg), kept]
      rw [ih (gr := { gr with members := gr.members.map (fun e => if e.dish = m.dish then { e with deadline := none } else e) })
        (by rw [once, getElem_set_same]), once, Vector.set_set, List.map_map]
      congr 4
      funext e
      unfold haltedMember
      simp only [Function.comp_apply, List.mem_cons, exists_eq_or_imp, moving, true_and]
      by_cases named : e.dish = m.dish
      · simp only [named, if_true, true_or, ite_self]
      · simp only [named, if_false, Ne.symm named, false_or]
    · have once : haltMember g m s = s := if_neg moving
      rw [once, ih hg]
      congr 4
      funext e
      unfold haltedMember
      simp only [List.mem_cons, exists_eq_or_imp, moving, false_and, false_or]

/-- A member list's subs stand through a halt. -/
theorem haltedMember_sub (ms : List Member) (e : Member) : (haltedMember ms e).sub = e.sub := by
  unfold haltedMember
  split <;> rfl

/-- Where no dish repeats, a halt clears the deadlines of the MOVING members alone. -/
theorem haltedMember_self {ms : List Member} (nodup : (ms.map fun m => m.dish).Nodup) :
    ms.map (haltedMember ms) = ms.map fun m => if m.sub = .moving then { m with deadline := none } else m := by
  refine List.map_congr_left fun e he => ?_
  have named : (∃ m ∈ ms, m.sub = .moving ∧ m.dish = e.dish) ↔ e.sub = .moving := by
    refine ⟨fun ⟨m, hm, moving, same⟩ => ?_, fun moving => ⟨e, he, moving, rfl⟩⟩
    rw [← List.inj_on_of_nodup_map nodup hm he same]
    exact moving
  unfold haltedMember
  simp only [named]

/-- A halt of members touches the dish table, the drive reservations, the bus records, the stow moves and the groups alone. -/
theorem haltMembers_touches (g : GroupNo) (ms : List Member) (s : State) :
    (let u := ms.foldl (fun t m => haltMember g m t) s
    u = { s with dishes := u.dishes, drive := u.drive, bus := u.bus, stowMoves := u.stowMoves, groups := u.groups }) := by
  dsimp only
  induction ms generalizing s with
  | nil => rfl
  | cons m ms ih =>
    have once : haltMember g m s = { s with
        dishes := (haltMember g m s).dishes, drive := (haltMember g m s).drive, bus := (haltMember g m s).bus
        stowMoves := (haltMember g m s).stowMoves, groups := (haltMember g m s).groups } := by
      unfold haltMember
      split
      · unfold modMember State.modGroup
        rw [goStopping_touches]
      · rfl
    rw [List.foldl_cons, ih (haltMember g m s)]
    generalize (ms.foldl (fun t m => haltMember g m t) (haltMember g m s)) = u
    rw [once]

/-- R57: a halt, whole. -/
theorem halt_eq {g : GroupNo} {gr : Group} {s : State} (hg : s.groups[g] = some gr) :
    (let u := gr.members.foldl (fun t m => haltMember g m t) s
    let halted := gr.members.map (haltedMember gr.members)
    halt g gr s =
      if ∃ m ∈ gr.members, m.sub = .moving then
        { u with groups := s.groups.set g (some { gr with state := .halting, members := halted }) }
      else
        raise .groupEnded [g.val] { u with groups := s.groups.set g (some
          { gr with state := .halted, members := halted.map fun m => { m with sub := .waiting } }) }) := by
  have groups := haltMembers_groups g gr.members hg
  unfold halt
  dsimp only
  generalize gr.members.foldl (fun t m => haltMember g m t) s = u at groups ⊢
  have opens : u.groups[g] = some { gr with members := gr.members.map (haltedMember gr.members) } := by rw [groups, getElem_set_same]
  have here : (u.modGroup g fun x => { x with state := .halting }).groups[g] =
      some { gr with state := .halting, members := gr.members.map (haltedMember gr.members) } := by
    rw [State.modGroup_groups, getElem_set_same, opens]
    rfl
  have table : (u.modGroup g fun x => { x with state := .halting }) = { u with
      groups := s.groups.set g (some { gr with state := .halting, members := gr.members.map (haltedMember gr.members) }) } := by
    rw [modGroup_some _ opens]
    unfold State.setGroup
    rw [groups, Vector.set_set]
  have rest : (∀ m ∈ gr.members.map (haltedMember gr.members), m.sub ≠ .moving) ↔ ¬ ∃ m ∈ gr.members, m.sub = .moving := by
    simp only [List.forall_mem_map, haltedMember_sub, not_exists, not_and, ne_eq]
  rw [judgeGroup_eq here]
  dsimp only
  rw [table]
  simp only [rest, reduceCtorEq, and_false, and_true, if_false, ite_not]
  rw [Vector.set_set]

theorem stoppedView_motion (x : DishRecord × DriveRes × BusRecord × Option StowMove) : (stoppedView x).1.motion = .stopping := by
  unfold stoppedView
  split
  · assumption
  · rfl

/-- A halted dish is STOPPING, and stays so while others are halted. -/
theorem haltMember_stopping (g : GroupNo) (m : Member) (e : DishNo) (s : State)
    (h : (m.sub = .moving ∧ m.dish = e) ∨ (s.driveView e).1.motion = .stopping) : ((haltMember g m s).driveView e).1.motion = .stopping := by
  by_cases same : m.dish = e
  · subst same
    rw [haltMember_view_same]
    split
    case isTrue => exact stoppedView_motion _
    case isFalse still => exact h.resolve_left fun ⟨moving, _⟩ => still moving
  · rw [haltMember_view_other _ _ _ _ (Ne.symm same)]
    exact h.resolve_left fun ⟨_, here⟩ => same here

theorem haltMembers_stopping (g : GroupNo) (ms : List Member) (s : State) (e : DishNo)
    (h : (∃ m ∈ ms, m.sub = .moving ∧ m.dish = e) ∨ (s.driveView e).1.motion = .stopping) :
    ((ms.foldl (fun t m => haltMember g m t) s).driveView e).1.motion = .stopping := by
  induction ms generalizing s with
  | nil => exact h.resolve_left (by simp)
  | cons m ms ih =>
    rw [List.foldl_cons]
    refine ih _ ?_
    rcases h with ⟨x, hx, moving, here⟩ | h
    · rcases List.mem_cons.mp hx with rfl | hx
      · exact .inr (haltMember_stopping g x e s (.inl ⟨moving, here⟩))
      · exact .inl ⟨x, hx, moving, here⟩
    · exact .inr (haltMember_stopping g m e s (.inr h))

/-- R57: what a halt leaves of the tables of one dish. -/
theorem halt_view {g : GroupNo} {gr : Group} {s : State} (hg : s.groups[g] = some gr) (e : DishNo) :
    (halt g gr s).driveView e = (gr.members.foldl (fun t m => haltMember g m t) s).driveView e := by
  have halted := halt_eq hg
  dsimp only at halted
  rw [halted]
  split <;> rfl

theorem halt_group {g : GroupNo} {gr : Group} {s : State} (hg : s.groups[g] = some gr) :
    (halt g gr s).groups[g].map Group.state = some (if ∃ m ∈ gr.members, m.sub = .moving then .halting else .halted) := by
  have halted := halt_eq hg
  dsimp only at halted
  rw [halted]
  split
  · dsimp only
    rw [getElem_set_same]
    rfl
  · unfold raise State.modPort
    dsimp only
    rw [getElem_set_same]
    rfl

/-- R57: a halt of a group whose dishes do not repeat, dish by dish. -/
theorem halt_dishes {g : GroupNo} {gr : Group} {s : State} (hg : s.groups[g] = some gr) (nodup : (gr.members.map fun m => m.dish).Nodup) :
    (∀ m ∈ gr.members, m.sub = .moving → (halt g gr s).driveView m.dish = stoppedView (s.driveView m.dish)) ∧
    ∀ d : DishNo, s.dishes[d].motion = .stopping ∨ (∀ m ∈ gr.members, m.sub = .moving → m.dish ≠ d) →
      (halt g gr s).driveView d = s.driveView d := by
  obtain ⟨listed, others⟩ := foldl_view_key (key := Member.dish) (view := State.driveView) (f := haltMember g)
    (G := fun m x => if m.sub = .moving then stoppedView x else x)
    (fun m e t he => haltMember_view_other g m e t he) (fun m t => haltMember_view_same g m t) gr.members nodup s
  refine ⟨fun m hm moving => ?_, fun d hd => ?_⟩
  · rw [halt_view hg, listed m hm, if_pos moving]
  · rw [halt_view hg]
    by_cases named : d ∈ gr.members.map Member.dish
    · obtain ⟨m, hm, rfl⟩ := List.mem_map.mp named
      rw [listed m hm]
      split
      case isTrue moving =>
        have stopping := hd.resolve_right fun h => h m hm moving rfl
        exact if_pos stopping
      case isFalse => rfl
    · exact others d named

theorem stoppedView_dish (x : DishRecord × DriveRes × BusRecord × Option StowMove) :
    (stoppedView x).1 = { x.1 with motion := .stopping } := by
  unfold stoppedView
  split
  case isTrue h => rw [← h]
  case isFalse => rfl

/-- R57: what a halt leaves of the rest of the state. -/
theorem halt_frame {g : GroupNo} {gr : Group} {s : State} (hg : s.groups[g] = some gr) (nodup : (gr.members.map fun m => m.dish).Nodup) :
    (let t := halt g gr s
    t = { s with
      dishes := t.dishes, drive := t.drive, bus := t.bus, stowMoves := t.stowMoves
      port := if ∃ m ∈ gr.members, m.sub = .moving then s.port else (raise .groupEnded [g.val] s).port
      groups := s.groups.set g (some
        (if ∃ m ∈ gr.members, m.sub = .moving then
          { gr with
            state := .halting, members := gr.members.map (fun m => if m.sub = .moving then { m with deadline := none } else m) }
        else { gr with state := .halted, members := gr.members.map (fun m => { m with sub := .waiting }) })) }) := by
  have halted := halt_eq hg
  have touched := haltMembers_touches g gr.members s
  dsimp only at halted touched ⊢
  rw [haltedMember_self nodup] at halted
  generalize gr.members.foldl (fun t m => haltMember g m t) s = u at halted touched
  by_cases moving : ∃ m ∈ gr.members, m.sub = .moving
  · simp only [moving, if_true] at halted ⊢
    rw [halted, touched]
  · have still : (gr.members.map fun m => if m.sub = .moving then { m with deadline := none } else m) = gr.members := by
      refine (List.map_congr_left fun m hm => ?_).trans (List.map_id _)
      exact if_neg fun h => moving ⟨m, hm, h⟩
    simp only [moving, if_false] at halted ⊢
    rw [halted, still, touched]
    rfl

/-- Settles O18. -/
theorem haltAndDisbandGroup : Obligations.HaltAndDisbandGroup := by
  unfold Obligations.HaltAndDisbandGroup
  refine ⟨?_, fun g gr s hg _ => ⟨fun m hm moving => ?_, halt_group hg⟩, fun g gr s hg _ nodup => ?_, fun d keep s => ?_,
    fun g d why transition s gr => removeMember_eq d why transition, fun g gr s => judgeGroup_eq, ?_⟩
  · intro label n s r ready
    refine (runRequest_ready r (haltGroup n.toNat) s ready).trans (congrArg _ ?_)
    obtain ⟨p, e⟩ := begun_port r s
    unfold State.replied haltGroup putGroupState
    rw [e]
    rcases asFin 8 n.toNat with _ | g
    · rfl
    dsimp only
    cases hg : s.groups[g] with
    | none => rfl
    | some gr =>
      dsimp only
      by_cases moving : gr.state = .moving
      · simp only [moving, if_true]
        rfl
      · simp only [moving, if_false, hg]
        rfl
  · have stopping := haltMembers_stopping g gr.members s m.dish (.inl ⟨m, hm, moving, rfl⟩)
    rw [← halt_view hg] at stopping
    exact stopping
  · obtain ⟨halted, others⟩ := halt_dishes hg nodup
    refine ⟨fun m hm moving => ⟨?_, fun fresh => ?_⟩, fun d hd => ?_, halt_frame hg nodup⟩
    · exact (congrArg Prod.fst (halted m hm moving)).trans (stoppedView_dish _)
    · have view := (halted m hm moving).trans (if_neg fresh)
      unfold State.driveView at view
      simp only [Prod.mk.injEq] at view
      obtain ⟨-, drive, bus, moves⟩ := view
      exact ⟨drive, bus.trans (postMotion_bus_same m.dish .hold s).symm, moves⟩
    · have view := others d hd
      unfold State.driveView at view
      simp only [Prod.mk.injEq] at view
      exact view
  · exact ⟨goStopping_dishes d keep s, goStopping_of_stopping keep, goStopping_of_moving keep⟩
  · intro label n s r ready
    refine (runRequest_ready r (disbandGroup n.toNat) s ready).trans (congrArg _ ?_)
    obtain ⟨p, e⟩ := begun_port r s
    unfold State.replied disbandGroup
    rw [e]
    rcases asFin 8 n.toNat with _ | g
    · rfl
    dsimp only
    cases s.groups[g] with
    | none => rfl
    | some gr =>
      dsimp only
      simp only [Group.underWay_iff]
      split <;> rfl

end Machine
end Sys2Proof
end

section
/-! PROOFS. An accepted start, member by member (O17). -/

namespace Sys2Proof
namespace Machine

/-! ### Carrying out a plan, seen from the dish (R26, R31, R33) -/

/-- What carrying out a plan reads and writes of one dish. -/
def State.carryView (e : DishNo) (s : State) : DishRecord × DriveRes × BusRecord := (s.dishes[e], s.drive[e], s.bus[e])

/-- R32: the scaled profile of a planned member, from its description. -/
def profileOf (desc : Description) (p : MemberPlan) (move : Nat) : Profile where
  azRate  := scaledRate desc.az.vMax p.azTime move
  azAccel := scaledAccel desc.az.aMax p.azTime move
  elRate  := scaledRate desc.el.vMax p.elTime move
  elAccel := scaledAccel desc.el.aMax p.elTime move

theorem memberProfile_eq (s : State) (p : MemberPlan) (move : Nat) : memberProfile s p move = profileOf s.dishes[p.dish].desc p move := rfl

/-- R26, R31, R33: what carrying out the plan of a member makes of its dish. -/
def carriedView (move groupStart : Nat) (p : MemberPlan) (x : DishRecord × DriveRes × BusRecord) : DishRecord × DriveRes × BusRecord :=
  ({ x.1 with targets := some p.target }, DriveRes.withKind .slew ⟨loadTerm p move, none⟩,
    x.2.2.post (.setpoint (slewSetpoint p (profileOf x.1.desc p move) groupStart)))

theorem carryMember_eq (move groupStart : Nat) (p : MemberPlan) (s : State) : carryMember move groupStart p s = { s with
    dishes := s.dishes.set p.dish { s.dishes[p.dish] with targets := some p.target }
    drive := s.drive.set p.dish (DriveRes.withKind .slew ⟨loadTerm p move, none⟩)
    bus := (postMotion p.dish (.setpoint (slewSetpoint p (memberProfile s p move) groupStart)) s).bus } := by
  unfold carryMember
  rw [postMotion_touches, postMotion_bus (s := s) p.dish (.setpoint (slewSetpoint p (memberProfile s p move) groupStart))]
  · rfl
  · rfl

theorem carryMember_view_same (move groupStart : Nat) (p : MemberPlan) (s : State) :
    (carryMember move groupStart p s).carryView p.dish = carriedView move groupStart p (s.carryView p.dish) := by
  rw [carryMember_eq]
  unfold State.carryView
  dsimp only
  rw [getElem_set_same, getElem_set_same, postMotion_bus_same]
  rfl

theorem carryMember_view_other (move groupStart : Nat) (p : MemberPlan) (e : DishNo) (s : State) (he : e ≠ p.dish) :
    (carryMember move groupStart p s).carryView e = s.carryView e := by
  rw [carryMember_eq]
  unfold State.carryView
  dsimp only
  rw [getElem_set_other _ _ _ _ he, getElem_set_other _ _ _ _ he, postMotion_bus_other _ _ _ _ he]

/-- Carrying out a plan touches the dish table, the drive reservations and the bus records alone. -/
theorem carryMembers_touches (move groupStart : Nat) (ps : List MemberPlan) (s : State) :
    (let u := ps.foldl (fun t p => carryMember move groupStart p t) s
    u = { s with dishes := u.dishes, drive := u.drive, bus := u.bus }) := by
  dsimp only
  induction ps generalizing s with
  | nil => rfl
  | cons p ps ih =>
    rw [List.foldl_cons, ih (carryMember move groupStart p s)]
    generalize (ps.foldl (fun t p => carryMember move groupStart p t) (carryMember move groupStart p s)) = u
    rw [carryMember_eq]

theorem post_heat (o : Order) (b : BusRecord) : (b.post o).heat = b.heat := by
  unfold BusRecord.post
  split <;> rfl

theorem post_orders (o : Order) (b : BusRecord) : (b.post o).orders = if b.link = .active then postList o b.orders else b.orders := by
  unfold BusRecord.post
  split <;> rfl

theorem planGroup_dishes (s : State) (gr : Group) : (planGroup s gr).map (fun p => p.dish) = gr.members.map fun m => m.dish := by
  unfold planGroup
  rw [List.map_map]
  rfl

/-- R31: what is shed for a load is what it and all reservations exceed the capacity by, down to the melt floor. -/
theorem shedForStart_eq (load : Nat) (s : State) :
    shedForStart load s = shed s.feed.meltFloor (load + sumDrive s.drive + sumMelt s.grants - s.feed.capacity) s := by
  have excess : ((load : Int) - s.pFree).toNat = load + sumDrive s.drive + sumMelt s.grants - s.feed.capacity := by
    unfold State.pFree
    omega
  unfold shedForStart
  rw [excess]

/-- R46: an accepted start that moves, as the plan carried out and the group record written. -/
theorem startMoving_eq (g : GroupNo) (gr : Group) (ps : List MemberPlan) (move : Nat) (s : State) :
    (let u := shed s.feed.meltFloor (groupLoad ps move + sumDrive s.drive + sumMelt s.grants - s.feed.capacity) s
    startMoving g gr ps move s = (ps.foldl (fun t p => carryMember move (s.siteTime + 50) p t) u).setGroup g (some
      { gr with
        state := .moving
        members := (gr.members.zip ps).map (fun e => startedMember s move e.1 e.2)
        removals := []
        startStamp := some s.arrayClock
        tMove := some move
        tG := some (move + s.settings.settleMargin)
        startInstant := some (s.siteTime + 50) })) := by
  dsimp only
  rw [← shedForStart_eq]
  rfl

section
variable (g : GroupNo) (gr : Group) (move : Nat) (s : State) (nodup : (gr.members.map fun m => m.dish).Nodup)
include nodup

/-- R46: an accepted start that moves, dish by dish. -/
theorem startMoving_dishes :
    (let ps := planGroup s gr
    let u := shed s.feed.meltFloor (groupLoad ps move + sumDrive s.drive + sumMelt s.grants - s.feed.capacity) s
    (∀ p ∈ ps, (startMoving g gr ps move s).carryView p.dish = carriedView move (s.siteTime + 50) p (u.carryView p.dish)) ∧
    ∀ d : DishNo, d ∉ ps.map (fun p => p.dish) → (startMoving g gr ps move s).carryView d = u.carryView d) := by
  dsimp only
  rw [startMoving_eq]
  have keys : ((planGroup s gr).map MemberPlan.dish).Nodup := by
    rw [show (planGroup s gr).map MemberPlan.dish = _ from planGroup_dishes s gr]
    exact nodup
  exact foldl_view_key (key := MemberPlan.dish) (view := State.carryView) (f := carryMember move (s.siteTime + 50))
    (G := fun p x => carriedView move (s.siteTime + 50) p x)
    (fun p e t he => carryMember_view_other move (s.siteTime + 50) p e t he)
    (fun p t => carryMember_view_same move (s.siteTime + 50) p t) (planGroup s gr) keys _

end

/-- R46: what an accepted start that moves leaves of the rest of the state. -/
theorem startMoving_frame (g : GroupNo) (gr : Group) (ps : List MemberPlan) (move : Nat) (s : State) :
    (let u := shed s.feed.meltFloor (groupLoad ps move + sumDrive s.drive + sumMelt s.grants - s.feed.capacity) s
    let t := startMoving g gr ps move s
    t = { s with
      dishes := t.dishes, drive := t.drive, bus := t.bus, grants := u.grants, circuits := u.circuits
      groups := s.groups.set g (some
        { gr with
          state := .moving
          members := (gr.members.zip ps).map (fun e => startedMember s move e.1 e.2)
          removals := []
          startStamp := some s.arrayClock
          tMove := some move
          tG := some (move + s.settings.settleMargin)
          startInstant := some (s.siteTime + 50) }) }) := by
  have started := startMoving_eq g gr ps move s
  have shedding := shed_touches s.feed.meltFloor (groupLoad ps move + sumDrive s.drive + sumMelt s.grants - s.feed.capacity) s
  dsimp only at started ⊢
  generalize shed s.feed.meltFloor (groupLoad ps move + sumDrive s.drive + sumMelt s.grants - s.feed.capacity) s = u at started shedding ⊢
  have touched := carryMembers_touches move (s.siteTime + 50) ps u
  dsimp only at touched
  generalize ps.foldl (fun t p => carryMember move (s.siteTime + 50) p t) u = v at started touched
  rw [started, touched, shedding]
  rfl

/-! ### A start that moves nothing (R47) -/

/-- R47: an accepted start that moves nothing, dish by dish. -/
theorem startStill_dishes (g : GroupNo) (gr : Group) (s : State) (nodup : (gr.members.map fun m => m.dish).Nodup) :
    (∀ p ∈ planGroup s gr, (startStill g gr (planGroup s gr) s).dishes[p.dish] = { s.dishes[p.dish] with targets := some p.target }) ∧
    ∀ d : DishNo, d ∉ (planGroup s gr).map (fun p => p.dish) → (startStill g gr (planGroup s gr) s).dishes[d] = s.dishes[d] := by
  have keys : ((planGroup s gr).map MemberPlan.dish).Nodup := by
    rw [show (planGroup s gr).map MemberPlan.dish = _ from planGroup_dishes s gr]
    exact nodup
  exact foldl_view_key (key := MemberPlan.dish) (view := fun d (s : State) => s.dishes[d])
    (f := fun p (t : State) => t.modDish p.dish fun r => { r with targets := some p.target })
    (G := fun p r => { r with targets := some p.target })
    (fun p e t he => State.modDish_other t p.dish e _ he) (fun p t => State.modDish_same t p.dish _) (planGroup s gr) keys s

theorem targeted_touches (ps : List MemberPlan) (s : State) :
    (let u := ps.foldl (fun (t : State) p => t.modDish p.dish fun r => { r with targets := some p.target }) s
    u = { s with dishes := u.dishes }) := by
  dsimp only
  induction ps generalizing s with
  | nil => rfl
  | cons p ps ih =>
    rw [List.foldl_cons, ih (s.modDish p.dish fun r => { r with targets := some p.target })]
    rfl

/-- R47: what an accepted start that moves nothing leaves of the rest of the state. -/
theorem startStill_frame (g : GroupNo) (gr : Group) (ps : List MemberPlan) (s : State) :
    (let t := startStill g gr ps s
    t = { s with
      dishes := t.dishes
      port := (raise .groupEnded [g.val] s).port
      groups := s.groups.set g (some
        { gr with
          state := .arrived
          members := (gr.members.zip ps).map (fun e => arrivedMember s e.1 e.2)
          removals := []
          startStamp := some s.arrayClock
          tMove := some 0
          tG := some 0
          startInstant := none }) }) := by
  have touched := targeted_touches ps s
  unfold startStill
  dsimp only at touched ⊢
  generalize ps.foldl (fun (t : State) p => t.modDish p.dish fun r => { r with targets := some p.target }) s = v at touched
  rw [touched]
  rfl

/-- Settles O17. -/
theorem acceptedStartMovesEveryMember : Obligations.AcceptedStartMovesEveryMember := by
  unfold Obligations.AcceptedStartMovesEveryMember
  constructor
  · intro g gr move s ps load u t nodup
    obtain ⟨listed, others⟩ := startMoving_dishes g gr move s nodup
    have shedding : u = { s with grants := u.grants, circuits := u.circuits, bus := u.bus } :=
      shed_touches s.feed.meltFloor (load + sumDrive s.drive + sumMelt s.grants - s.feed.capacity) s
    have steady : Steady s u := shed_steady s.feed.meltFloor (load + sumDrive s.drive + sumMelt s.grants - s.feed.capacity) s
    have orders (d : DishNo) : u.bus[d].orders = s.bus[d].orders := shed_orders _ _ s d
    have dishes : u.dishes = s.dishes := by rw [shedding]
    have drive : u.drive = s.drive := by rw [shedding]
    refine ⟨fun p hp => ?_, fun d hd => ?_, fun d => ?_, startMoving_frame g gr ps move s⟩
    · have view : t.carryView p.dish = carriedView move (s.siteTime + 50) p (u.carryView p.dish) := listed p hp
      unfold State.carryView carriedView at view
      simp only [Prod.mk.injEq] at view
      obtain ⟨hDish, hDrive, hBus⟩ := view
      rw [dishes] at hDish hBus
      refine ⟨hDish, hDrive, hBus.trans (postMotion_bus_same _ _ _).symm, ?_⟩
      rw [hBus, post_orders, steady.link, orders]
      rfl
    · have view : t.carryView d = u.carryView d := others d hd
      unfold State.carryView at view
      simp only [Prod.mk.injEq] at view
      obtain ⟨hDish, hDrive, hBus⟩ := view
      refine ⟨?_, ?_, hBus, ?_⟩
      · rw [hDish, dishes]
      · rw [hDrive, drive]
      · rw [hBus, orders]
    · by_cases planned : d ∈ ps.map fun p => p.dish
      · obtain ⟨p, hp, rfl⟩ := List.mem_map.mp planned
        have view : t.carryView p.dish = carriedView move (s.siteTime + 50) p (u.carryView p.dish) := listed p hp
        unfold State.carryView carriedView at view
        simp only [Prod.mk.injEq] at view
        obtain ⟨-, -, hBus⟩ := view
        rw [hBus, post_heat]
      · have view : t.carryView d = u.carryView d := others d planned
        unfold State.carryView at view
        simp only [Prod.mk.injEq] at view
        obtain ⟨-, -, hBus⟩ := view
        rw [hBus]
  · intro g gr s ps t nodup
    obtain ⟨listed, others⟩ := startStill_dishes g gr s nodup
    exact ⟨listed, others, startStill_frame g gr ps s⟩

end Machine
end Sys2Proof
end

section
/-! PROOFS. READ CONDITIONS and RESET COORDINATION (O26). -/

namespace Sys2Proof
namespace Machine

/-! ### RESET COORDINATION, seen from the dish (R21, R177) -/

theorem movingMember_congr {s t : State} (h : t.groups = s.groups) (d : DishNo) : t.movingMember d = s.movingMember d := by
  unfold State.movingMember State.memberOf
  rw [h]

/-- What RESET COORDINATION reads and writes of one dish. -/
def State.resetView (d : DishNo) (s : State) : Bool × DishRecord × DriveRes × BusRecord × Option StowMove := (s.movingMember d, s.driveView d)

/-- R21: what RESET COORDINATION makes of a dish, before the slew SETPOINTs leave its list. -/
def resetDishView (x : Bool × DishRecord × DriveRes × BusRecord × Option StowMove) : Bool × DishRecord × DriveRes × BusRecord × Option StowMove :=
  let r := x.2.1
  if r.motion = .member then
    if x.1 = true then
      (x.1, { r with motion := .stopping, group := none }, DriveRes.withKind .stop x.2.2.1, x.2.2.2.1.post .hold, none)
    else (x.1, { r with motion := .free, group := none }, x.2.2)
  else if r.motion = .stopping then (x.1, { r with group := none }, x.2.2)
  else x

theorem resetDish_touches (d : DishNo) (s : State) : resetDish d s = { s with
    dishes := (resetDish d s).dishes, drive := (resetDish d s).drive, stowMoves := (resetDish d s).stowMoves
    bus := (resetDish d s).bus } := by
  unfold resetDish
  split
  · split
    · rw [goStopping_touches]
    · rfl
  · rfl
  · rfl

theorem resetDish_view_same (d : DishNo) (s : State) : (resetDish d s).resetView d = resetDishView (s.resetView d) := by
  have groups : (resetDish d s).groups = s.groups := by rw [resetDish_touches]
  unfold State.resetView
  rw [movingMember_congr groups]
  unfold resetDishView resetDish
  cases hm : s.dishes[d].motion with
  | member =>
    have member : (s.driveView d).1.motion = .member := hm
    dsimp only
    rw [if_pos member]
    split
    case isTrue moving =>
      obtain ⟨drive, bus, moves⟩ := goStopping_drive (d := d) (s := s) false (by rw [hm]; nofun)
      unfold State.driveView
      rw [goStopping_dishes, drive, bus, moves, postMotion_bus_same, getElem_set_same, getElem_set_same, getElem_set_same]
      rfl
    case isFalse =>
      unfold State.driveView
      rw [State.modDish_same]
      rfl
  | stopping =>
    have stopping : (s.driveView d).1.motion = .stopping := hm
    dsimp only
    rw [if_neg (by rw [stopping]; nofun), if_pos stopping]
    unfold State.driveView
    rw [State.modDish_same]
    rfl
  | restrained | free | locked | stowQueued | stowing | stowed | cut | unreachable =>
    have motion : (s.driveView d).1.motion = _ := hm
    dsimp only
    rw [if_neg (by rw [motion]; nofun), if_neg (by rw [motion]; nofun)]

theorem resetDish_view_other (d e : DishNo) (s : State) (he : e ≠ d) : (resetDish d s).resetView e = s.resetView e := by
  have groups : (resetDish d s).groups = s.groups := by rw [resetDish_touches]
  have changed (f : DishRecord → DishRecord) : (s.modDish d f).driveView e = s.driveView e := by
    unfold State.driveView
    rw [State.modDish_other _ _ _ _ he]
    rfl
  unfold State.resetView
  rw [movingMember_congr groups]
  unfold resetDish
  split
  · split
    · rw [goStopping_view_other _ _ _ _ he]
    · rw [changed]
  · rw [changed]
  · rfl

theorem forDishes_resetDish (s : State) (d : DishNo) : (forDishes resetDish s).resetView d = resetDishView (s.resetView d) := by
  have view := foldl_view (view := State.resetView) (f := resetDish) (G := fun _ x => resetDishView x)
    (fun d e t he => resetDish_view_other d e t he) resetDish_view_same allDishes allDishes_nodup s d
  rw [if_pos (mem_allDishes d)] at view
  exact view

theorem forDishes_resetDish_touches (s : State) :
    (let u := forDishes resetDish s
    u = { s with dishes := u.dishes, drive := u.drive, stowMoves := u.stowMoves, bus := u.bus }) := by
  have keeps := foldl_keeps (P := fun u : State => u = { s with dishes := u.dishes, drive := u.drive, stowMoves := u.stowMoves, bus := u.bus })
    (fun t d => resetDish d t) (fun u d hu => by rw [resetDish_touches, hu]) allDishes s rfl
  exact keeps

/-- A list that HOLD has been posted to holds no SETPOINT. -/
theorem postList_hold_unslewed (l : List Order) : (postList .hold l).filter (fun o => !o.isSlew) = postList .hold l := by
  have kept : ∀ o ∈ l.filter (fun e => !e.isSetpoint), (!o.isSlew) = true := by
    intro o ho
    have := (List.mem_filter.mp ho).2
    cases o with
    | setpoint sp => cases this
    | hold | cut => rfl
  rw [List.filter_eq_self]
  intro o ho
  unfold postList at ho
  dsimp only at ho
  split at ho
  · exact kept o ho
  · rcases List.mem_append.mp ho with ho | ho
    · exact kept o ho
    · rw [List.mem_singleton.mp ho]
      rfl

theorem begun_queue (r : Request) (s : State) : (s.begun r).port = { s.port with
    queue := (s.begun r).port.queue, running := (s.begun r).port.running } := by
  unfold State.begun
  split <;> rfl

theorem begun_conditions (r : Request) (s : State) : (s.begun r).port.conditions = s.port.conditions := by
  rw [begun_queue]

/-- A list of orders with its SETPOINTs of kind SLEW told apart by any test that tells them. -/
theorem dropSlews_eq (slew : Order → Bool) (h : ∀ o, slew o = o.isSlew) (b : BusRecord) : b.dropSlews = { b with
    orders := b.orders.filter (fun o => !slew o)
    inFlight := b.inFlight.map (fun f => f.loseHead ((b.orders.head?.map slew).getD false)) } := by
  rw [funext h]
  rfl

theorem resetBlocks_resetView (s : State) (d : DishNo) :
    ((resetBlocks s).dishes[d], (resetBlocks s).drive[d], (resetBlocks s).bus[d], (resetBlocks s).stowMoves[d])
      = (let x := resetDishView (s.resetView d)
        (x.2.1, x.2.2.1, x.2.2.2.1.dropSlews, x.2.2.2.2)) := by
  have view := forDishes_resetDish s d
  unfold State.resetView State.driveView at view
  unfold State.resetView State.driveView resetBlocks
  dsimp only
  rw [← view]
  have bus : ((forDishes resetDish s).bus.map BusRecord.dropSlews)[d] = ((forDishes resetDish s).bus[d]).dropSlews :=
    Vector.getElem_map _ d.isLt
  rw [bus]

/-- The state that RESET COORDINATION answers, block by block. -/
theorem resetCoordination_touches (r : Request) (s : State) :
    endRequest r (resetCoordination (s.begun r)) = (let u := resetBlocks (s.begun r)
      { s with
        dishes := u.dishes, drive := u.drive, stowMoves := u.stowMoves, bus := u.bus
        groups := Vector.replicate 8 none
        scan := s.scan.dropSpot
        port := { s.port with
          queue := [], running := none
          answers := [⟨r.code, r.label, .ok,
            put8 (s.begun r).port.queue.length ++ put8 s.port.answers.length ++ putFlag s.scan.spot.isSome⟩]
          conditions := Vector.replicate 9 ⟨false, []⟩
          exchange := s.port.exchange.map (fun x => { x with live := false }) } }) := by
  have blocks : resetBlocks (s.begun r) = { s.begun r with
      dishes := (resetBlocks (s.begun r)).dishes
      drive := (resetBlocks (s.begun r)).drive
      stowMoves := (resetBlocks (s.begun r)).stowMoves
      bus := (resetBlocks (s.begun r)).bus
      groups := Vector.replicate 8 none } := by
    have touches := forDishes_resetDish_touches (s.begun r)
    unfold resetBlocks
    generalize forDishes resetDish (s.begun r) = u at touches
    dsimp only at touches
    rw [touches]
  have port := begun_queue r s
  obtain ⟨p, e⟩ := begun_port r s
  unfold resetCoordination answeredWith
  rw [endRequest_answered]
  generalize resetBlocks (s.begun r) = u at blocks
  rw [e] at blocks port
  rw [e, blocks]
  dsimp only at port
  rw [port]
  rfl

/-- Settles O26: RESET COORDINATION treats the dishes one by one, each seen through its own records. -/
theorem conditionAndResetRequests : Obligations.ConditionAndResetRequests := by
  unfold Obligations.ConditionAndResetRequests
  constructor
  · intro label s r ready
    refine (runRequest_ready r readConditions s ready).trans (congrArg _ ?_)
    unfold readConditions answeredWith putConditions
    rw [endRequest_answered, begun_conditions]
    rfl
  · intro label s r ready
    have touches := resetCoordination_touches r s
    have views := resetBlocks_resetView (s.begun r)
    have seen (d : DishNo) : (s.begun r).resetView d = s.resetView d := by
      obtain ⟨p, e⟩ := begun_port r s
      rw [e]
      rfl
    generalize resetBlocks (s.begun r) = u at touches views
    refine ⟨_, (runRequest_ready r resetCoordination s ready).trans (congrArg _ touches), ?_, ?_, ?_,
      (attn_iff _).mpr (Or.inl (List.cons_ne_nil _ _)), ?_⟩
    · rfl
    · rfl
    · rfl
    intro d x stops b slew
    have same : ∀ o, slew o = o.isSlew := by
      intro o
      cases o with
      | setpoint sp => rcases sp with ⟨_ | _, _, _⟩ <;> rfl
      | hold | cut => rfl
    have view := views d
    rw [seen] at view
    simp only [Prod.mk.injEq] at view
    obtain ⟨dishes, drive, bus, moves⟩ := view
    have after : resetDishView (s.resetView d) = (s.movingMember d,
      (if x.motion = .member then { x with motion := if s.movingMember d = true then .stopping else .free, group := none }
          else if x.motion = .stopping then { x with group := none } else x),
      (if stops then s.drive[d].withKind .stop else s.drive[d]), b, (if stops then none else s.stowMoves[d])) := by
      unfold resetDishView State.resetView State.driveView
      dsimp only
      by_cases member : x.motion = .member
      · rw [if_pos member, if_pos member]
        by_cases moving : s.movingMember d = true
        · have stop : stops := ⟨member, moving⟩
          have hold : b = s.bus[d].post .hold := (if_pos stop).trans (postMotion_bus_same d .hold s)
          rw [if_pos moving, if_pos moving, if_pos stop, if_pos stop, hold]
        · have stay : ¬ stops := fun h => moving h.2
          have kept : b = s.bus[d] := if_neg stay
          rw [if_neg moving, if_neg moving, if_neg stay, if_neg stay, kept]
      · have stay : ¬ stops := fun h => member h.1
        have kept : b = s.bus[d] := if_neg stay
        rw [if_neg member, if_neg member, if_neg stay, if_neg stay, kept]
        split <;> rfl
    rw [after] at dishes drive bus moves
    refine ⟨dishes, drive, moves, bus.trans (dropSlews_eq slew same b), ?_⟩
    intro moving active
    refine (congrArg BusRecord.orders bus).trans ?_
    have posted : b.orders = postList .hold s.bus[d].orders := by
      have hold : b = s.bus[d].post .hold := (if_pos moving).trans (postMotion_bus_same d .hold s)
      rw [hold, post_orders, if_pos active]
    show b.orders.filter _ = _
    rw [posted]
    exact postList_hold_unslewed _

end Machine
end Sys2Proof
end

section
/-! PROOFS. SPOT READING and the events of the one converter (O28). -/

namespace Sys2Proof
namespace Machine

/-! ### What the converter takes up (R85, R96) -/

theorem goOn_of_none {x : Scan} (h : x.spot = none) : x.goOn = { x with
    crossed := false
    converter := if x.round.isSome then .channel else .idle } := by
  unfold Scan.goOn Scan.takeUp
  rw [h] <;> rfl

theorem goOn_of_some {x : Scan} {p : Spot} (h : x.spot = some p) : x.goOn = { x with
    spot := some ⟨p.label, p.chan, true⟩
    crossed := x.crossed && p.converting
    converter := if p.converting = true then x.converter else .spot } := by
  obtain ⟨label, chan, converting⟩ := p
  unfold Scan.goOn Scan.takeUp
  rw [h]
  cases converting with
  | true =>
    have crossed : (x.crossed && true) = x.crossed := Bool.and_true _
    dsimp only
    rw [crossed, ← h]
    rfl
  | false =>
    have crossed : (x.crossed && false) = false := Bool.and_false _
    dsimp only
    rw [crossed]
    rfl

theorem acceptSpot_eq (label : Byte) (k : ChanNo) (x : Scan) : x.acceptSpot label k = { x with
    spot := some ⟨label, k, x.converter = .idle⟩
    crossed := x.crossed && x.converter != .idle
    converter := if x.converter = .idle then .spot else x.converter } := by
  unfold Scan.acceptSpot Scan.takeUp
  by_cases h : x.converter = .idle
  · have idle : (x.crossed && x.converter != .idle) = false := by rw [h]; exact Bool.and_false _
    rw [if_pos h, if_pos h, idle, decide_eq_true h]
  · have busy : (x.crossed && x.converter != .idle) = x.crossed := by rw [bne_iff_ne.mpr h, Bool.and_true]
    rw [if_neg h, if_neg h, busy, decide_eq_false h]

theorem beginRound_eq (now : Nat) (x : Scan) : x.beginRound now = { x with
    round := some ⟨now, 0, Vector.replicate 16 0⟩
    lastStart := some now
    crossed := x.crossed && x.converter != .idle
    converter := if x.converter = .idle then .channel else x.converter } := by
  unfold Scan.beginRound Scan.takeUp
  by_cases h : x.converter = .idle
  · have idle : (x.crossed && x.converter != .idle) = false := by rw [h]; exact Bool.and_false _
    rw [idle]
    dsimp only
    rw [if_pos h, if_pos h]
  · have busy : (x.crossed && x.converter != .idle) = x.crossed := by rw [bne_iff_ne.mpr h, Bool.and_true]
    rw [busy]
    dsimp only
    rw [if_neg h, if_neg h]

theorem scanDue_iff (s : State) :
    scanDue s = true ↔ s.siteTime % 25 = 0 ∧ s.scan.round = none ∧ s.scan.lastStart ≠ some s.siteTime := by
  unfold scanDue
  rw [Bool.and_eq_true, Bool.and_eq_true, beq_iff_eq, Option.isNone_iff_eq_none, bne_iff_ne, and_assoc]
  rfl

/-- Settles O28: the converter goes on by the spot that waits, in each of its states. -/
theorem spotReadingAndConverterEvents : Obligations.SpotReadingAndConverterEvents := by
  unfold Obligations.SpotReadingAndConverterEvents
  constructor
  · intro label n s r ready
    refine (runRequest_ready r (spotReading label n.toNat) s ready).trans (congrArg _ ?_)
    obtain ⟨p, e⟩ := begun_port r s
    unfold State.replied spotReading
    rw [e]
    rcases asFin 16 n.toNat with _ | k
    · rfl
    · dsimp only
      by_cases pending : s.scan.spot.isSome = true
      · rw [if_pos pending, if_pos pending]
        rfl
      · rw [if_neg pending, if_neg pending, endRequest_silent]
        exact congrArg (fun x => { s with port := { p with running := none }, scan := x }) (acceptSpot_eq label k s.scan)
  · intro raw s
    refine ⟨?_, ?_, ?_, ?_, ?_, ?_⟩
    · refine congrArg Host.Outcome.next ?_
      simp only [scanDue_iff]
      split
      · exact congrArg (fun x => { s with scan := x }) (beginRound_eq s.siteTime s.scan)
      · rfl
    · intro r channel round early
      change execConversionEnd raw s = _
      unfold execConversionEnd
      rw [channel, round]
      dsimp only
      rw [if_pos early]
      refine congrArg (fun x => Host.Outcome.next { s with scan := x }) ?_
      cases spot : s.scan.spot with
      | none =>
        refine (goOn_of_none (x := { s.scan with round := some ⟨r.start, r.chan + 1, r.raws.set r.chan raw⟩ }) spot).trans ?_
        rw [channel, spot] <;> rfl
      | some p =>
        refine (goOn_of_some (x := { s.scan with round := some ⟨r.start, r.chan + 1, r.raws.set r.chan raw⟩ }) spot).trans ?_
        rw [channel] <;> rfl
    · intro other
      change execConversionEnd raw s = _
      unfold execConversionEnd
      split
      case h_1 r channel round =>
        have last : (s.scan.round.map fun r => r.chan) = some 15 :=
          other.elim (absurd channel) fun h => h.resolve_left (by rw [round]; nofun)
        rw [round] at last
        have chan : r.chan = 15 := Option.some.inj last
        rw [if_neg (by rw [chan]; decide)]
      case h_2 => rfl
    · intro p converter spot
      change execSpotConversionEnd raw s = _
      unfold execSpotConversionEnd
      rw [converter, spot]
      exact congrArg (fun x => Host.Outcome.next { s with
        scan := x
        port := { s.port with answers := s.port.answers ++ [(⟨0x38, p.label, .ok, spotResults p raw s⟩ : Answer)] } })
        (goOn_of_none (x := { s.scan with spot := none }) rfl)
    · intro dropped
      change execSpotConversionEnd raw s = _
      unfold execSpotConversionEnd
      rw [dropped]
      refine congrArg (fun x => Host.Outcome.next { s with scan := x }) ?_
      cases spot : s.scan.spot with
      | none => exact goOn_of_none spot
      | some p =>
        refine (goOn_of_some spot).trans ?_
        rw [dropped]
    · intro other
      change execSpotConversionEnd raw s = _
      unfold execSpotConversionEnd
      rcases other with idle | channel | ⟨converter, spot⟩
      · rw [idle]
      · rw [channel]
      · rw [converter, spot]

end Machine
end Sys2Proof
end

section
/-! PROOFS. The records of a scan round (R85 to R92), the consumers' readings one by one, and a shedding of every circuit (R82); for O29. -/

namespace Sys2Proof
namespace Machine

/-! ### Serves when no melt is granted -/

theorem shed_unheated {s : State} (cold : ∀ d : DishNo, s.grants[d].duty = 0) (floor need : Nat) : shed floor need s = s := by
  have none : sumDuty s.grants = 0 := by
    refine List.sum_eq_zero fun x hx => ?_
    obtain ⟨d, -, rfl⟩ := List.mem_map.mp hx
    exact cold d
  unfold shed
  rw [none]
  rfl

/-- The grants, circuits and heat orders of a state. -/
def State.heat (s : State) : Vector MeltGrant 48 × Vector Circuit 48 × (DishNo → Option Bool) :=
  (s.grants, s.circuits, fun d => s.bus[d].heat)

theorem postMotion_heat (d : DishNo) (o : Order) (s : State) : (postMotion d o s).heat = s.heat := by
  unfold State.heat
  rw [postMotion_touches]
  refine Prod.ext rfl (Prod.ext rfl (funext fun e => ?_))
  by_cases he : e = d
  · subst he
    exact (congrArg BusRecord.heat (postMotion_bus_same e o s)).trans (post_heat o _)
  · exact congrArg BusRecord.heat (postMotion_bus_other d e o s he)

theorem startStow_heat (d : DishNo) (s : State) : (startStow d s).heat = s.heat := by
  rw [startStow_eq]
  refine Eq.trans ?_ (postMotion_heat d (.setpoint (stowSetpoint s d)) s)
  unfold State.heat
  rw [postMotion_touches]

/-- A serve of a site without granted melt sheds nothing: grants, windows and heat orders stay. -/
theorem serve_unheated (queue : List DishNo) (s : State) (h : s.stowQueue = queue) (cold : ∀ d : DishNo, s.grants[d].duty = 0) :
    (serve s).heat = s.heat := by
  induction queue generalizing s with
  | nil =>
    rw [serve_nil h]
    rfl
  | cons d rest ih =>
    rw [serve_cons h]
    split
    case isTrue =>
      have head := serveHead_eq d { s with stowQueue := rest, serveDue := false }
      dsimp only at head
      rw [shed_unheated (s := { s with stowQueue := rest, serveDue := false }) cold] at head
      have heat : (serveHead d { s with stowQueue := rest, serveDue := false }).heat = s.heat := by
        rw [head, startStow_heat]
        rfl
      have queue := (serveHead_tables d { s with stowQueue := rest, serveDue := false }).1
      generalize serveHead d { s with stowQueue := rest, serveDue := false } = v at heat queue ⊢
      have grants : v.grants = s.grants := congrArg Prod.fst heat
      rw [ih v queue (by rw [grants]; exact cold), heat]
    case isFalse => rfl

theorem serveIfDue_unheated {s : State} (cold : ∀ d : DishNo, s.grants[d].duty = 0) : (serveIfDue s).heat = s.heat := by
  unfold serveIfDue
  split
  · exact serve_unheated _ s rfl cold
  · rfl

/-! ### A shedding of every circuit (R82) -/

/-- What the shedding of a circuit reads and writes. -/
def State.shedView (d : DishNo) (s : State) : Bool × MeltGrant × Circuit × BusRecord :=
  (s.dishes[d].present, s.grants[d], s.circuits[d], s.bus[d])

def shedCircuitView (x : Bool × MeltGrant × Circuit × BusRecord) : Bool × MeltGrant × Circuit × BusRecord :=
  (x.1, { x.2.1 with duty := 0 }, { x.2.2.1 with window := none },
    if x.1 = true ∧ x.2.2.2.link = .active then
      { x.2.2.2 with heat := some false, inFlight := x.2.2.2.inFlight.map InFlight.noteHeat }
    else x.2.2.2)

theorem postHeat_bus_same (d : DishNo) (on : Bool) (s : State) : (postHeat d on s).bus[d] =
    if s.bus[d].link = .active then { s.bus[d] with heat := some on, inFlight := s.bus[d].inFlight.map InFlight.noteHeat }
    else s.bus[d] := by
  cases h : s.bus[d].link with
  | active => rw [postHeat_of_active on h, State.modBus_same]; rfl
  | lost => rw [postHeat_of_lost on h]; rfl

theorem postHeat_bus_other (d e : DishNo) (on : Bool) (s : State) (h : e ≠ d) : (postHeat d on s).bus[e] = s.bus[e] := by
  unfold postHeat
  split
  · exact State.modBus_other _ _ _ _ h
  · rfl

theorem shedCircuit_eq (d : DishNo) (s : State) : shedCircuit d s = { s with
    grants := s.grants.set d { s.grants[d] with duty := 0 }
    circuits := s.circuits.set d { s.circuits[d] with window := none }
    bus := if s.dishes[d].present = true then (postHeat d false s).bus else s.bus } := by
  unfold shedCircuit
  dsimp only
  split
  · rw [postHeat_touches, postHeat_bus (s := s) d false]
    · rfl
    · rfl
  · rfl

theorem shedCircuit_view_same (d : DishNo) (s : State) : (shedCircuit d s).shedView d = shedCircuitView (s.shedView d) := by
  rw [shedCircuit_eq]
  unfold State.shedView shedCircuitView
  dsimp only
  rw [getElem_set_same, getElem_set_same]
  refine Prod.ext rfl (Prod.ext rfl (Prod.ext rfl ?_))
  dsimp only
  by_cases present : s.dishes[d].present = true
  · rw [if_pos present, postHeat_bus_same]
    simp only [present, true_and]
  · rw [if_neg present, if_neg fun h => present h.1]

theorem shedCircuit_view_other (d e : DishNo) (s : State) (h : e ≠ d) : (shedCircuit d s).shedView e = s.shedView e := by
  rw [shedCircuit_eq]
  unfold State.shedView
  dsimp only
  rw [getElem_set_other _ _ _ _ h, getElem_set_other _ _ _ _ h]
  refine Prod.ext rfl (Prod.ext rfl (Prod.ext rfl ?_))
  dsimp only
  split
  · exact postHeat_bus_other d e false s h
  · rfl

theorem forDishes_shedCircuit (s : State) (d : DishNo) : (forDishes shedCircuit s).shedView d = shedCircuitView (s.shedView d) := by
  have view := foldl_view (view := State.shedView) (f := shedCircuit) (G := fun _ x => shedCircuitView x)
    (fun d e t he => shedCircuit_view_other d e t he) shedCircuit_view_same allDishes allDishes_nodup s d
  rw [if_pos (mem_allDishes d)] at view
  exact view

/-- R82: after an overload no circuit has a duty or a window, and every present ACTIVE dish has HEAT OFF in its slot. -/
def State.Cold (s t : State) : Prop :=
  ∀ d : DishNo, t.grants[d].duty = 0 ∧ t.circuits[d].window = none ∧
    (s.dishes[d].present = true → s.bus[d].link = .active → t.bus[d].heat = some false)

theorem overloadShed_cold (s : State) : State.Cold s (serveIfDue (overloadShed s)) := by
  have cold (d : DishNo) : (overloadShed s).grants[d].duty = 0 ∧ (overloadShed s).circuits[d].window = none ∧
      (s.dishes[d].present = true → s.bus[d].link = .active → (overloadShed s).bus[d].heat = some false) := by
    have view := forDishes_shedCircuit (s.modFeed (fun f => { f with overload := true, overRun := 0, quietRun := 0 })) d
    unfold State.shedView shedCircuitView at view
    simp only [Prod.mk.injEq] at view
    obtain ⟨-, grant, circuit, bus⟩ := view
    unfold overloadShed
    dsimp only
    generalize forDishes shedCircuit (s.modFeed (fun f => { f with overload := true, overRun := 0, quietRun := 0 })) = u at grant circuit bus
    refine ⟨congrArg MeltGrant.duty grant, congrArg Circuit.window circuit, fun present active => ?_⟩
    exact congrArg BusRecord.heat (bus.trans (if_pos ⟨present, active⟩))
  have heat := serveIfDue_unheated fun d => (cold d).1
  unfold State.heat at heat
  simp only [Prod.mk.injEq] at heat
  obtain ⟨grants, circuits, slots⟩ := heat
  intro d
  rw [grants, circuits, congrFun slots d]
  exact cold d

end Machine
end Sys2Proof
end

section
/-! PROOFS. What the fifteen samples of a round change of the cells, the melt weather and the feed, apart from what follows of it (R85, R93);
for O29. -/

namespace Sys2Proof
namespace Machine

/-! ### The pieces of the state that a round's samples read and write -/

/-- The scan and its consumers, and what an overload reads of the dishes. -/
structure Senses where
  scan     : Scan
  cells    : Vector Cell 8
  weather  : MeltWeather
  feed     : Feed
  settings : Settings
  present  : DishNo → Bool
  link     : DishNo → Link

def State.senses (s : State) : Senses where
  scan := s.scan
  cells := s.cells
  weather := s.meltWeather
  feed := s.feed
  settings := s.settings
  present d := s.dishes[d].present
  link d := s.bus[d].link

theorem Steady.senses {s t : State} (h : Steady s t) : t.senses = s.senses := by
  unfold State.senses
  rw [h.scan, h.cells, h.meltWeather, h.feed, h.settings, funext h.present, funext h.link]

/-- A cell after its sample of a round, its state judged (R101 to R106). -/
def Cell.sampled (speed : Option Nat) (lost : Bool) (c : Cell) : Cell :=
  Cell.judged (
    match speed with
    | some v => c.goodSample v
    | none => c.missedSample lost)

/-- R81 to R83: the feed after a sample, without what an overload does to the circuits. -/
def Feed.monitored (raw : Option Raw) (lost : Bool) (f : Feed) : Feed :=
  match raw with
  | none => f.missed lost
  | some r =>
    let g := f.measure (measuredLoad r)
    if f.overload then
      if Config.quietRounds ≤ g.quietRun then g.cleared else g
    else if Config.overRounds ≤ g.overRun then { g with overload := true, overRun := 0, quietRun := 0 }
    else g

/-- The speed that a record hands to its cell. -/
def Channel.speed (c : Channel) : Option Nat := if c.status = .good then c.number.map Int.toNat else none

/-- The raw value that a record hands to the overload monitor. -/
def Channel.measured (c : Channel) : Option Raw := if c.status = .good then c.lastRaw else none

/-- What handing over one sample does, without what follows of it. -/
def Senses.hand (k : ChanNo) (x : Senses) : Senses :=
  let c := x.scan.channels[k]
  if h : k.val < 8 then
    { x with cells := x.cells.set (⟨k.val, h⟩ : CellNo) (x.cells[(⟨k.val, h⟩ : CellNo)].sampled c.speed c.lost) }
  else if h : k.val - 8 < 4 then { x with weather := { x.weather with zones := x.weather.zones.set (⟨k.val - 8, h⟩ : ZoneNo) ⟨c.number, c.status⟩ } }
  else if h : k.val - 12 < 2 then { x with weather := x.weather.precipReading ⟨k.val - 12, h⟩ c.wet x.settings.snowLinger }
  else { x with feed := x.feed.monitored c.measured c.lost }

/-! ### One sample -/

theorem cellSample_senses (c : CellNo) (speed : Option Nat) (lost : Bool) (s : State) :
    (cellSample c speed lost s).senses = { s.senses with cells := s.cells.set c (s.cells[c].sampled speed lost) } := by
  unfold cellSample
  rw [(judgeCell_steady c _).senses]
  unfold State.senses State.modCell
  dsimp only
  rw [getElem_set_same, Vector.set_set]
  rfl

theorem overloadShed_steady (s : State) :
    Steady (s.modFeed (fun f => { f with overload := true, overRun := 0, quietRun := 0 })) (overloadShed s) := by
  have shedding (d : DishNo) (t : State) : Steady t (shedCircuit d t) := by
    unfold shedCircuit
    have off := (modGrant_steady d (fun g => { g with duty := 0 }) t fun _ => rfl).trans
      (modCircuit_steady d (fun c => { c with window := none }) _ fun _ => rfl)
    dsimp only
    split
    · exact off.trans (postHeat_steady d false _)
    · exact off
  exact ((foldl_steady shedCircuit shedding allDishes _).trans (raise_steady .feedOverload [] _)).trans (steady_loose _ _ _ _ _ _ true)

theorem monitorFeed_senses (raw : Option Raw) (lost : Bool) (s : State) :
    (monitorFeed raw lost s).senses = { s.senses with feed := s.feed.monitored raw lost } := by
  unfold monitorFeed Feed.monitored
  cases raw with
  | none => rfl
  | some r =>
    dsimp only
    by_cases flag : s.feed.overload = true
    · rw [if_pos flag, if_pos flag]
      by_cases quiet : Config.quietRounds ≤ (s.feed.measure (measuredLoad r)).quietRun
      · rw [if_pos quiet, if_pos (show Config.quietRounds ≤ (s.modFeed (Feed.measure (measuredLoad r))).feed.quietRun from quiet)]
        rfl
      · rw [if_neg quiet, if_neg (show ¬ Config.quietRounds ≤ (s.modFeed (Feed.measure (measuredLoad r))).feed.quietRun from quiet)]
        rfl
    · rw [if_neg flag, if_neg flag]
      by_cases heavy : Config.overRounds ≤ (s.feed.measure (measuredLoad r)).overRun
      · rw [if_pos heavy, if_pos (show Config.overRounds ≤ (s.modFeed (Feed.measure (measuredLoad r))).feed.overRun from heavy),
          (overloadShed_steady _).senses]
        rfl
      · rw [if_neg heavy, if_neg (show ¬ Config.overRounds ≤ (s.modFeed (Feed.measure (measuredLoad r))).feed.overRun from heavy)]
        rfl

theorem handSample_senses (k : ChanNo) (s : State) : (handSample k s).senses = s.senses.hand k := by
  unfold handSample Senses.hand
  dsimp only
  split
  · rw [(serveIfDue_steady _).senses, cellSample_senses]
    rfl
  · split
    · rfl
    · split
      · rfl
      · rw [(serveIfDue_steady _).senses, monitorFeed_senses]
        rfl

/-! ### The samples of a round -/

theorem handSamples_senses (l : List ChanNo) (s : State) :
    (l.foldl (fun t k => handSample k t) s).senses = l.foldl (fun x k => x.hand k) s.senses := by
  induction l generalizing s with
  | nil => rfl
  | cons k l ih => rw [List.foldl_cons, List.foldl_cons, ih, handSample_senses]

/-- The channel of a cell's anemometer, and of a zone's thermometer (TABLE 5.1). -/
def windChannel (c : CellNo) : ChanNo := ⟨c.val, by omega⟩

def zoneChannel (z : ZoneNo) : ChanNo := ⟨8 + z.val, by omega⟩

def Senses.cellsAfter (x : Senses) : Vector Cell 8 :=
  allCells.foldl (fun (v : Vector Cell 8) (c : CellNo) =>
    v.set c (v[c].sampled x.scan.channels[windChannel c].speed x.scan.channels[windChannel c].lost)) x.cells

def Senses.zonesAfter (x : Senses) : Vector Zone 4 :=
  (List.finRange 4).foldl (fun (v : Vector Zone 4) (z : ZoneNo) =>
    v.set z ⟨x.scan.channels[zoneChannel z].number, x.scan.channels[zoneChannel z].status⟩) x.weather.zones

def Senses.weatherAfter (x : Senses) : MeltWeather :=
  (({ x.weather with zones := x.zonesAfter }).precipReading 0 x.scan.channels[(12 : ChanNo)].wet x.settings.snowLinger).precipReading 1
    x.scan.channels[(13 : ChanNo)].wet x.settings.snowLinger

def Senses.feedAfter (x : Senses) : Feed := x.feed.monitored x.scan.channels[(14 : ChanNo)].measured x.scan.channels[(14 : ChanNo)].lost

theorem hand_wind (c : CellNo) (x : Senses) : x.hand (windChannel c) = { x with
    cells := x.cells.set c (x.cells[c].sampled x.scan.channels[windChannel c].speed x.scan.channels[windChannel c].lost) } := by
  unfold Senses.hand
  exact dif_pos c.isLt

theorem hand_zone (z : ZoneNo) (x : Senses) : x.hand (zoneChannel z) = { x with weather := { x.weather with
    zones := x.weather.zones.set z ⟨x.scan.channels[zoneChannel z].number, x.scan.channels[zoneChannel z].status⟩ } } := by
  have place : (zoneChannel z).val - 8 = z.val := Nat.add_sub_cancel_left 8 z.val
  have notCell : ¬ (zoneChannel z).val < 8 := Nat.not_lt.mpr (Nat.le_add_right 8 z.val)
  have zone : (zoneChannel z).val - 8 < 4 := by rw [place]; exact z.isLt
  unfold Senses.hand
  dsimp only
  rw [dif_neg notCell, dif_pos zone]
  simp only [place]

theorem hand_cells (cs : List CellNo) (x : Senses) : (cs.map windChannel).foldl (fun y k => y.hand k) x = { x with
    cells := cs.foldl (fun (v : Vector Cell 8) (c : CellNo) =>
      v.set c (v[c].sampled x.scan.channels[windChannel c].speed x.scan.channels[windChannel c].lost)) x.cells } := by
  induction cs generalizing x with
  | nil => rfl
  | cons c cs ih => rw [List.map_cons, List.foldl_cons, hand_wind, ih, List.foldl_cons]

theorem hand_zones (zs : List ZoneNo) (x : Senses) : (zs.map zoneChannel).foldl (fun y k => y.hand k) x = { x with
    weather := { x.weather with zones := zs.foldl (fun (v : Vector Zone 4) (z : ZoneNo) =>
      v.set z ⟨x.scan.channels[zoneChannel z].number, x.scan.channels[zoneChannel z].status⟩) x.weather.zones } } := by
  induction zs generalizing x with
  | nil => rfl
  | cons z zs ih => rw [List.map_cons, List.foldl_cons, hand_zone, ih, List.foldl_cons]

theorem roundChannels_eq : roundChannels = allCells.map windChannel ++ (List.finRange 4).map zoneChannel ++ [12, 13, 14] := by decide

theorem handAll_eq (x : Senses) : roundChannels.foldl (fun y k => y.hand k) x =
    { x with cells := x.cellsAfter, weather := x.weatherAfter, feed := x.feedAfter } := by
  rw [roundChannels_eq, List.foldl_append, List.foldl_append, hand_cells, hand_zones]
  rfl

theorem cellsAfter_getElem (x : Senses) (c : CellNo) : x.cellsAfter[c] =
    x.cells[c].sampled x.scan.channels[windChannel c].speed x.scan.channels[windChannel c].lost := by
  have view := foldl_view (view := fun (c : CellNo) (v : Vector Cell 8) => v[c])
    (f := fun c v => v.set c (v[c].sampled x.scan.channels[windChannel c].speed x.scan.channels[windChannel c].lost))
    (G := fun c y => y.sampled x.scan.channels[windChannel c].speed x.scan.channels[windChannel c].lost)
    (fun c e v he => getElem_set_other _ _ _ _ he) (fun c v => getElem_set_same _ _ _) allCells (List.nodup_finRange 8) x.cells c
  rw [if_pos (show c ∈ allCells from List.mem_finRange c)] at view
  exact view

theorem zonesAfter_getElem (x : Senses) (z : ZoneNo) : x.zonesAfter[z] =
    ⟨x.scan.channels[zoneChannel z].number, x.scan.channels[zoneChannel z].status⟩ := by
  unfold Senses.zonesAfter
  rw [foldl_set_getElem (fun z : ZoneNo => (⟨x.scan.channels[zoneChannel z].number, x.scan.channels[zoneChannel z].status⟩ : Zone)),
    if_pos (List.mem_finRange z)]

end Machine
end Sys2Proof
end

section
/-! PROOFS. Conversion and the records of a scan round (R87 to R92); for O29. -/

namespace Sys2Proof
namespace Machine

/-! ### Conversion and one record (R87, R88, R90, R92) -/

theorem convert_eq (k : ChanNo) (raw : Raw) : convert k raw =
    (if k.val < 8 then (if raw.toNat < 4090 then some (.number ((min 700 (raw.toNat * 700 / 4095) : Nat) : Int)) else none)
     else if k.val < 12 then
      (if 0 < raw.toNat ∧ raw.toNat < 4090 then some (.number (((raw.toNat * 1000 / 4095 : Nat) : Int) - 500)) else none)
     else if k.val < 14 then (if raw.toNat < 4090 then some (.wetness (2048 ≤ raw.toNat)) else none)
     else if k.val = 14 then some (.number ((raw.toNat * 4000 / 4095 : Nat) : Int))
     else if 2008 ≤ raw.toNat ∧ raw.toNat ≤ 2088 then some (.number (raw.toNat : Int)) else none) := by
  unfold convert measuredLoad
  dsimp only
  by_cases wind : k.val < 8
  · rw [if_pos (Nat.lt_succ_iff.mp wind), if_pos wind]
    by_cases good : raw.toNat < 4090
    · rw [if_neg (Nat.not_le.mpr good), if_pos good]
    · rw [if_pos (Nat.not_lt.mp good), if_neg good]
  · rw [if_neg (mt Nat.lt_succ_iff.mpr wind), if_neg wind]
    by_cases zone : k.val < 12
    · rw [if_pos (Nat.lt_succ_iff.mp zone), if_pos zone]
      by_cases good : 0 < raw.toNat ∧ raw.toNat < 4090
      · rw [if_neg (by simp only [Bool.or_eq_true, decide_eq_true_eq]; omega), if_pos good]
      · rw [if_pos (by simp only [Bool.or_eq_true, decide_eq_true_eq]; omega), if_neg good]
    · rw [if_neg (mt Nat.lt_succ_iff.mpr zone), if_neg zone]
      by_cases sensor : k.val < 14
      · rw [if_pos (Nat.lt_succ_iff.mp sensor), if_pos sensor]
        by_cases good : raw.toNat < 4090
        · rw [if_neg (Nat.not_le.mpr good), if_pos good]
        · rw [if_pos (Nat.not_lt.mp good), if_neg good]
      · rw [if_neg (mt Nat.lt_succ_iff.mpr sensor), if_neg sensor]
        simp only [Bool.and_eq_true, decide_eq_true_eq]

theorem takeIn_of_some {k : ChanNo} {raw : Raw} {v : Converted} (c : Channel) (h : convert k raw = some v) :
    c.takeIn k raw = ⟨some raw, some v, .good, 0, 0, c.lost⟩ := by
  unfold Channel.takeIn
  rw [h] <;> rfl

theorem takeIn_of_none {k : ChanNo} {raw : Raw} (c : Channel) (h : convert k raw = none) :
    c.takeIn k raw = ⟨some raw, c.value, .failed, min 255 (c.bad + 1), min 65535 (c.age + 1), c.lost⟩ := by
  unfold Channel.takeIn
  rw [h] <;> rfl

theorem judgeLost_eq (c : Channel) : c.judgeLost = { c with lost := if 8 ≤ c.bad then true else if c.bad = 0 then false else c.lost } := by
  unfold Channel.judgeLost
  by_cases many : Config.lostRounds ≤ c.bad
  · rw [if_pos many, if_pos (show 8 ≤ c.bad from many)]
  · rw [if_neg many, if_neg (show ¬ 8 ≤ c.bad from many)]
    split <;> rfl

/-! ### The records of a round (R85, R89, R90) -/

theorem judgeReference_channels (inWindow : Bool) (x : Scan) : x.judgeReference inWindow = { x with
    mode := (x.judgeReference inWindow).mode, outRun := (x.judgeReference inWindow).outRun, inRun := (x.judgeReference inWindow).inRun } := by
  unfold Scan.judgeReference
  split
  · rfl
  · split <;> rfl
  · split <;> rfl
  · rfl

/-- R89: the judgement of the reference reads the mode and its runs alone. -/
theorem judgeReference_channelsSet (inWindow : Bool) (v : Vector Channel 16) (x : Scan) :
    ({ x with channels := v }).judgeReference inWindow = { x.judgeReference inWindow with channels := v } := by
  unfold Scan.judgeReference
  dsimp only
  split
  · rfl
  · split <;> rfl
  · split <;> rfl
  · rfl

theorem roundChannels_nodup : roundChannels.Nodup := (List.nodup_finRange 16).filter _

theorem mem_roundChannels (k : ChanNo) : k ∈ roundChannels ↔ k.val < 15 := by
  unfold roundChannels
  rw [List.mem_filter, decide_eq_true_eq]
  exact and_iff_right (List.mem_finRange k)

theorem record_eq (raws : Vector Raw 16) (x : Scan) :
    (let y := x.judgeReference (convert 15 raws[15]).isSome
    x.record raws = { x with channels := (x.record raws).channels, mode := y.mode, outRun := y.outRun, inRun := y.inRun }) := by
  dsimp only
  unfold Scan.record
  dsimp only
  rw [judgeReference_channelsSet, judgeReference_channels]

/-- R85, R88, R90, R92: every record after a round, by the mode that channel 15 leaves. -/
theorem record_channel (raws : Vector Raw 16) (x : Scan) (k : ChanNo) : (x.record raws).channels[k] =
    ((if k.val < 15 then x.channels[k].endRound (x.record raws).mode k raws[k] else x.channels[k].takeIn k raws[k])).judgeLost := by
  have mode : (x.record raws).mode = (x.judgeReference (convert 15 raws[15]).isSome).mode := by rw [record_eq]
  rw [mode]
  unfold Scan.record
  dsimp only
  rw [judgeReference_channelsSet]
  generalize (x.judgeReference (convert 15 raws[15]).isSome).mode = m
  have lost := foldl_view (view := fun (k : ChanNo) (v : Vector Channel 16) => v[k]) (f := fun k v => v.set k v[k].judgeLost)
    (G := fun _ c => c.judgeLost) (fun k e v he => getElem_set_other _ _ _ _ he) (fun k v => getElem_set_same _ _ _)
    (List.finRange 16) (List.nodup_finRange 16)
  have taken := foldl_view (view := fun (k : ChanNo) (v : Vector Channel 16) => v[k])
    (f := fun k v => v.set k (v[k].endRound m k raws[k])) (G := fun k c => c.endRound m k raws[k])
    (fun k e v he => getElem_set_other _ _ _ _ he) (fun k v => getElem_set_same _ _ _) roundChannels roundChannels_nodup
  refine (lost _ k).trans ?_
  rw [if_pos (List.mem_finRange k)]
  refine congrArg Channel.judgeLost ((taken _ k).trans ?_)
  simp only [mem_roundChannels]
  by_cases early : k.val < 15
  · rw [if_pos early, if_pos early]
    have other : k ≠ (15 : ChanNo) := fun h => absurd early (by rw [h]; decide)
    exact congrArg (fun c => Channel.endRound m k raws[k] c) (getElem_set_other _ _ _ _ other)
  · rw [if_neg early, if_neg early]
    obtain rfl : k = 15 := Fin.ext (show k.val = 15 by omega)
    exact Vector.getElem_set_self _

/-! ### What a record hands on (R93) -/

theorem judgeLost_handed (c : Channel) : c.judgeLost.speed = c.speed ∧ c.judgeLost.measured = c.measured ∧
    c.judgeLost.number = c.number ∧ c.judgeLost.status = c.status ∧ c.judgeLost.value = c.value ∧ c.judgeLost.wet = c.wet := by
  rw [judgeLost_eq]
  exact ⟨rfl, rfl, rfl, rfl, rfl, rfl⟩

theorem endRound_speed (mode : RefMode) (k : ChanNo) (raw : Raw) (c : Channel) (wind : k.val < 8) : (c.endRound mode k raw).speed =
    if mode = .normal ∧ raw.toNat < 4090 then some (min 700 (raw.toNat * 700 / 4095)) else none := by
  unfold Channel.endRound
  cases mode with
  | normal =>
    dsimp only
    have value := convert_eq k raw
    rw [if_pos wind] at value
    by_cases good : raw.toNat < 4090
    · rw [if_pos good] at value
      rw [if_pos ⟨rfl, good⟩, takeIn_of_some c value]
      rfl
    · rw [if_neg good] at value
      rw [if_neg fun h => good h.2, takeIn_of_none c value]
      rfl
  | fault =>
    rw [if_neg fun h => nomatch h.1]
    rfl

theorem endRound_measured (mode : RefMode) (raw : Raw) (c : Channel) :
    (c.endRound mode 14 raw).measured = if mode = .normal then some raw else none := by
  unfold Channel.endRound
  cases mode with
  | normal =>
    dsimp only
    rw [takeIn_of_some c (v := .number ((raw.toNat * 4000 / 4095 : Nat) : Int)) (convert_eq 14 raw)]
    rfl
  | fault => rfl

/-- TABLE 5.4: a precipitation record that FAILED, or that does not read dry, is wet. -/
theorem wet_eq (c : Channel) : c.wet = ((c.status == .failed) || (c.value != some (.wetness false))) := by
  unfold Channel.wet
  cases c.status with
  | failed => rfl
  | good | held =>
    rcases c.value with _ | (v | w)
    · rfl
    · rfl
    · cases w <;> rfl

end Machine
end Sys2Proof
end

section
/-! PROOFS. A cell's sample, the precipitation readings and the overload monitor written out, for O29. -/

namespace Sys2Proof
namespace Machine

/-! ### A cell's sample (R101 to R104) -/

theorem cellTakeIn_eq (v : Nat) (c : Cell) : c.takeIn v = { c with
    last := some v
    mean := (7 * c.mean + v + 4) / 8
    gustRun := if c.limits.gust ≤ v then min 3 (c.gustRun + 1) else 0
    runHigh := if c.limits.gust ≤ v then (if c.gustRun = 0 then some v else some (max (c.runHigh.getD 0) v)) else none } := by
  unfold Cell.takeIn
  by_cases gust : c.limits.gust ≤ v
  · rw [if_pos gust, if_pos gust, if_pos gust]
    rfl
  · rw [if_neg gust, if_neg gust, if_neg gust]

theorem cellJudgeWind_eq (c : Cell) : c.judgeWind = { c with
    reasons := { c.reasons with
      wind := c.reasons.wind || decide (c.limits.stowMean ≤ c.mean), gust := c.reasons.gust || decide (c.gustRun = 3) }
    holdDown := if c.limits.stowMean ≤ c.mean ∨ c.gustRun = 3 then some c.limits.holdDown else c.holdDown
    peak :=
      if c.gustRun = 3 then (if c.reasons.gust = true then some (max (c.peak.getD 0) (c.runHigh.getD 0)) else c.runHigh)
      else c.peak } := by
  have rounds : Config.gustRounds = 3 := rfl
  unfold Cell.judgeWind
  dsimp only
  rw [rounds]
  by_cases wind : c.limits.stowMean ≤ c.mean
  · have run : c.addWind.gustRun = c.gustRun := rfl
    rw [if_pos wind, run, if_pos (Or.inl wind), decide_eq_true wind, Bool.or_true]
    by_cases gust : c.gustRun = 3
    · rw [if_pos gust, if_pos gust, decide_eq_true gust, Bool.or_true]
      rfl
    · rw [if_neg gust, if_neg gust, decide_eq_false gust, Bool.or_false]
      rfl
  · rw [if_neg wind, decide_eq_false wind, Bool.or_false]
    by_cases gust : c.gustRun = 3
    · rw [if_pos gust, if_pos gust, if_pos (Or.inr gust), decide_eq_true gust, Bool.or_true]
      rfl
    · rw [if_neg gust, if_neg gust, if_neg fun h => h.elim wind gust, decide_eq_false gust, Bool.or_false]

theorem cellCountGood_eq (c : Cell) : c.countGood = { c with
    sensorLost := c.sensorLost && decide (c.goodRounds < 39)
    goodRounds := if c.sensorLost = false then c.goodRounds else if c.goodRounds < 39 then c.goodRounds + 1 else 0 } := by
  unfold Cell.countGood
  have trusted : Config.trustRounds ≤ c.goodRounds + 1 ↔ ¬ c.goodRounds < 39 := by
    show 40 ≤ c.goodRounds + 1 ↔ _
    omega
  cases flag : c.sensorLost with
  | false =>
    have kept : { c with sensorLost := false } = c := by rw [← flag]
    rw [if_pos (show (!false) = true from rfl), if_pos rfl, Bool.false_and]
    exact kept.symm
  | true =>
    rw [if_neg (show ¬ (!true) = true by decide), if_neg (show ¬ true = false by decide), Bool.true_and]
    by_cases more : c.goodRounds < 39
    · rw [if_neg fun h => trusted.mp h more, if_pos more, decide_eq_true more]
    · rw [if_pos (trusted.mpr more), if_neg more, decide_eq_false more]

theorem cellRestartHold_eq (c : Cell) : c.restartHold = { c with
    holdDown := if c.limits.release ≤ c.mean then c.holdDown.map (fun _ => c.limits.holdDown) else c.holdDown } := by
  unfold Cell.restartHold
  split <;> rfl

/-- R104: a hold-down just set is not restarted to another value. -/
theorem restarted_eq (p q : Prop) [Decidable p] [Decidable q] (limit : Nat) (hold : Option Nat) :
    (if p then (if q then some limit else hold).map (fun _ => limit) else if q then some limit else hold) =
      if q then some limit else if p then hold.map (fun _ => limit) else hold := by
  by_cases set : q
  · rw [if_pos set, if_pos set, Option.map_some, ite_self]
  · rw [if_neg set, if_neg set]

/-- R101 to R104: a GOOD sample of speed v, field by field. -/
theorem sampled_good (v : Nat) (lost : Bool) (x : Cell) :
    (let mean := (7 * x.mean + v + 4) / 8
    let run := if x.limits.gust ≤ v then min 3 (x.gustRun + 1) else 0
    let high : Option Nat :=
      if x.limits.gust ≤ v then (if x.gustRun = 0 then some v else some (max (x.runHigh.getD 0) v)) else none
    x.sampled (some v) lost = Cell.judged { x with
      last := some v, mean := mean, gustRun := run, runHigh := high
      reasons := { x.reasons with
        wind := x.reasons.wind || decide (x.limits.stowMean ≤ mean), gust := x.reasons.gust || decide (run = 3) }
      peak := if run = 3 then (if x.reasons.gust = true then some (max (x.peak.getD 0) (high.getD 0)) else high) else x.peak
      sensorLost := x.sensorLost && decide (x.goodRounds < 39)
      goodRounds := if x.sensorLost = false then x.goodRounds else if x.goodRounds < 39 then x.goodRounds + 1 else 0
      holdDown :=
        if x.limits.stowMean ≤ mean ∨ run = 3 then some x.limits.holdDown
        else if x.limits.release ≤ mean then x.holdDown.map (fun _ => x.limits.holdDown)
        else x.holdDown }) := by
  dsimp only
  unfold Cell.sampled Cell.goodSample
  dsimp only
  rw [cellTakeIn_eq, cellJudgeWind_eq, cellCountGood_eq, cellRestartHold_eq]
  dsimp only
  rw [restarted_eq]

theorem sampled_missed (lost : Bool) (x : Cell) : x.sampled none lost = Cell.judged (
    if lost = true then { x with
      reasons := { x.reasons with sensor := true }, holdDown := some x.limits.holdDown, sensorLost := true, goodRounds := 0 }
    else { x with goodRounds := if x.sensorLost = true then 0 else x.goodRounds }) := by
  unfold Cell.sampled Cell.missedSample
  dsimp only
  split
  · rfl
  · split <;> rfl

/-! ### The melt weather (R129, R130) -/

theorem nextRun_eq (wet : Bool) (run : Nat) : nextRun wet run = if wet = true then min 4 (run + 1) else 0 := rfl

theorem precipReading_eq (k : SensorNo) (wet : Bool) (linger : Nat) (w : MeltWeather) :
    (let run := nextRun wet w.precip[k].run
    w.precipReading k wet linger = { w with
      precip := w.precip.set k ⟨some wet, run⟩
      on := w.on || decide (run = 4)
      linger := if (w.on = true ∧ wet = true) ∨ run = 4 then some linger else w.linger }) := by
  dsimp only
  have rounds : Config.wetRounds = 4 := rfl
  unfold MeltWeather.precipReading
  dsimp only
  rw [rounds]
  by_cases full : nextRun wet w.precip[k].run = 4
  · have soaked : wet = true := by
      by_contra dry
      rw [nextRun_eq, if_neg dry] at full
      cases full
    rw [if_pos full, if_pos soaked, if_pos (Or.inr full), decide_eq_true full, Bool.or_true]
    split
    case isTrue on => rw [← on]
    case isFalse => rfl
  · rw [if_neg full, decide_eq_false full, Bool.or_false]
    by_cases on : w.on = true
    · rw [if_pos on]
      by_cases soaked : wet = true
      · rw [if_pos soaked, if_pos (Or.inl ⟨on, soaked⟩)]
      · rw [if_neg soaked, if_neg fun h => h.elim (fun h => soaked h.2) full]
    · rw [if_neg on, if_neg fun h => h.elim (fun h => on h.1) full]

/-! ### The overload monitor (R81 to R83) -/

theorem monitored_none (lost : Bool) (f : Feed) : f.monitored none lost = { f with
    lost := f.lost || lost
    overRun := if f.overload = true then f.overRun else 0
    quietRun := if f.overload = true then 0 else f.quietRun } := by
  unfold Feed.monitored Feed.missed
  dsimp only
  split <;> rfl

theorem monitored_overload (r : Raw) (lost : Bool) (f : Feed) (h : f.overload = true) :
    (let load := r.toNat * 4000 / 4095
    f.monitored (some r) lost = { f with
      lMeas := some load, lost := false
      overload := decide (f.capacity < load ∨ f.quietRun < 39)
      quietRun := if load ≤ f.capacity ∧ f.quietRun < 39 then f.quietRun + 1 else 0 }) := by
  have rounds : Config.quietRounds = 40 := rfl
  unfold Feed.monitored Feed.measure measuredLoad
  dsimp only
  rw [if_pos h, if_pos h, rounds]
  by_cases within : r.toNat * 4000 / 4095 ≤ f.capacity
  · rw [if_pos within]
    dsimp only
    by_cases more : f.quietRun < 39
    · rw [if_neg (by omega), if_pos ⟨within, more⟩, decide_eq_true (Or.inr more), h]
    · rw [if_pos (by omega), if_neg fun e => more e.2, decide_eq_false (by omega)]
      rfl
  · rw [if_neg within]
    dsimp only
    rw [if_neg (by omega), if_neg fun e => within e.1, decide_eq_true (Or.inl (Nat.not_le.mp within)), h]

theorem monitored_clear (r : Raw) (lost : Bool) (f : Feed) (h : f.overload = false) :
    (let load := r.toNat * 4000 / 4095
    let heavy := f.capacity + f.capacity / 10 < load ∧ 0 < f.capacity
    f.monitored (some r) lost =
      if heavy ∧ 3 ≤ f.overRun then { f with lMeas := some load, lost := false, overload := true, overRun := 0, quietRun := 0 }
      else { f with lMeas := some load, lost := false, overRun := if heavy then f.overRun + 1 else 0 }) := by
  have rounds : Config.overRounds = 4 := rfl
  have clear : ¬ f.overload = true := by rw [h]; decide
  unfold Feed.monitored Feed.measure measuredLoad
  dsimp only
  rw [if_neg clear, if_neg clear, rounds]
  simp only [Bool.and_eq_true, decide_eq_true_eq]
  by_cases heavy : f.capacity + f.capacity / 10 < r.toNat * 4000 / 4095 ∧ 0 < f.capacity
  · rw [if_pos heavy]
    dsimp only
    by_cases full : 3 ≤ f.overRun
    · rw [if_pos (Nat.succ_le_succ full), if_pos ⟨heavy, full⟩]
    · rw [if_neg (by omega), if_neg fun e => full e.2, if_pos heavy]
  · rw [if_neg heavy]
    dsimp only
    rw [if_neg (by omega), if_neg fun e => heavy e.1, if_neg heavy]

end Machine
end Sys2Proof
end

section
/-! PROOFS. The end of a scan round (O29). -/

namespace Sys2Proof
namespace Machine

/-! ### The scan after a round (R85, R89) -/

theorem closeRound_eq (raws : Vector Raw 16) (now : Nat) (x : Scan) (channel : x.converter = .channel) : x.closeRound raws now = { x with
    channels := (x.record raws).channels, mode := (x.record raws).mode, outRun := (x.record raws).outRun, inRun := (x.record raws).inRun
    round := none, lastEnd := some now
    spot := x.spot.map (fun p => { p with converting := true })
    converter := match x.spot with | some p => (if p.converting = true then .channel else .spot) | none => .idle
    crossed := x.crossed && (x.spot.map (fun p => p.converting)).getD false } := by
  have recorded := record_eq raws x
  dsimp only at recorded
  unfold Scan.closeRound
  generalize x.record raws = y at recorded ⊢
  generalize x.judgeReference (convert 15 raws[15]).isSome = z at recorded
  rw [recorded]
  dsimp only
  cases spot : x.spot with
  | none =>
    rw [goOn_of_none]
    · rw [show (x.crossed && (Option.map (fun p : Spot => p.converting) none).getD false) = false from Bool.and_false _] <;> rfl
    · rfl
  | some p =>
    rw [goOn_of_some (p := p)]
    · rw [channel] <;> rfl
    · rfl

/-- R85, steps 1 to 3: the records of a round, before the consumers take their samples. -/
def recordRound (raws : Vector Raw 16) (s : State) : State :=
  let s1 := s.modScan fun _ => s.scan.closeRound raws s.siteTime
  if s.scan.mode = .normal ∧ (s.scan.record raws).mode = .fault then raise .sensorFault [] s1 else s1

theorem endRound_eq (raws : Vector Raw 16) (s : State) :
    endRound raws s = roundChannels.foldl (fun t k => handSample k t) (recordRound raws s) := by
  unfold endRound recordRound Scan.closeRound
  simp only [Bool.and_eq_true, decide_eq_true_eq]

theorem recordRound_senses (raws : Vector Raw 16) (s : State) :
    (recordRound raws s).senses = { s.senses with scan := s.scan.closeRound raws s.siteTime } := by
  unfold recordRound
  dsimp only
  split
  · exact (raise_steady .sensorFault [] _).senses
  · rfl

/-- The senses at the end of a round: every consumer has taken its sample from the records that the round leaves. -/
theorem endRound_senses (raws : Vector Raw 16) (s : State) :
    (let x : Senses := { s.senses with scan := s.scan.closeRound raws s.siteTime }
    (endRound raws s).senses = { x with cells := x.cellsAfter, weather := x.weatherAfter, feed := x.feedAfter }) := by
  rw [endRound_eq, handSamples_senses, handAll_eq, recordRound_senses]

/-- R89: the fault of the reference is raised, and stays through the consumers' handling. -/
theorem endRound_sensorFault (raws : Vector Raw 16) (s : State) (before : s.scan.mode = .normal)
    (after : (s.scan.record raws).mode = .fault) : (endRound raws s).port.conditions[Cond.sensorFault.index].flag = true := by
  rw [endRound_eq]
  refine ((keepsLaws_foldl _ handSample_keeps _ _).conditions Cond.sensorFault.index).1 ?_
  unfold recordRound
  dsimp only
  rw [if_pos ⟨before, after⟩, raise_same]

theorem handSample_last (s : State) : handSample 14 s =
    serveIfDue (monitorFeed s.scan.channels[(14 : ChanNo)].measured s.scan.channels[(14 : ChanNo)].lost s) := rfl

/-- The overload monitor takes its sample last, when no consumer before has touched what it reads. -/
theorem endRound_last (raws : Vector Raw 16) (s : State) : ∃ v : State,
    v.senses = { s.senses with scan := s.scan.closeRound raws s.siteTime, cells := v.cells, weather := v.meltWeather } ∧
    endRound raws s = serveIfDue (monitorFeed v.scan.channels[(14 : ChanNo)].measured v.scan.channels[(14 : ChanNo)].lost v) := by
  have split : roundChannels = (allCells.map windChannel ++ (List.finRange 4).map zoneChannel ++ [12, 13]) ++ [14] := by decide
  refine ⟨(allCells.map windChannel ++ (List.finRange 4).map zoneChannel ++ [12, 13]).foldl (fun t k => handSample k t)
    (recordRound raws s), ?_, ?_⟩
  · have senses := handSamples_senses (allCells.map windChannel ++ (List.finRange 4).map zoneChannel ++ [12, 13]) (recordRound raws s)
    generalize (allCells.map windChannel ++ (List.finRange 4).map zoneChannel ++ [12, 13]).foldl (fun t k => handSample k t)
      (recordRound raws s) = v at senses ⊢
    rw [List.foldl_append, List.foldl_append, hand_cells, hand_zones, recordRound_senses] at senses
    have cells : v.cells = _ := congrArg Senses.cells senses
    have weather : v.meltWeather = _ := congrArg Senses.weather senses
    rw [senses, cells, weather]
    rfl
  · rw [endRound_eq, split, List.foldl_append, List.foldl_cons, List.foldl_nil, handSample_last]

theorem overloadShed_flag (s : State) : (overloadShed s).port.conditions[Cond.feedOverload.index].flag = true := by
  have port (t : State) : (raise .feedOverload [] t).markServe.port = (raise .feedOverload [] t).port := rfl
  unfold overloadShed
  dsimp only
  rw [port, raise_same]

/-- R82: an overload at the end of a round. -/
theorem endRound_overload (raws : Vector Raw 16) (s : State)
    (r : Raw) (measured : ((s.scan.closeRound raws s.siteTime).channels[(14 : ChanNo)]).measured = some r)
    (clear : s.feed.overload = false) (heavy : s.feed.capacity + s.feed.capacity / 10 < measuredLoad r ∧ 0 < s.feed.capacity)
    (full : 3 ≤ s.feed.overRun) :
    (endRound raws s).port.conditions[Cond.feedOverload.index].flag = true ∧ State.Cold s (endRound raws s) := by
  obtain ⟨v, senses, last⟩ := endRound_last raws s
  have scan : v.scan = s.scan.closeRound raws s.siteTime := congrArg Senses.scan senses
  have feed : v.feed = s.feed := congrArg Senses.feed senses
  have present (d : DishNo) : v.dishes[d].present = s.dishes[d].present := congrFun (congrArg Senses.present senses) d
  have link (d : DishNo) : v.bus[d].link = s.bus[d].link := congrFun (congrArg Senses.link senses) d
  have sheds : monitorFeed (some r) v.scan.channels[(14 : ChanNo)].lost v = overloadShed (v.modFeed (Feed.measure (measuredLoad r))) := by
    have run : (v.feed.measure (measuredLoad r)).overRun = s.feed.overRun + 1 := by
      unfold Feed.measure
      dsimp only
      rw [feed, clear, if_neg (by decide), if_pos (by rw [Bool.and_eq_true, decide_eq_true_eq, decide_eq_true_eq]; exact heavy)]
    have counted : Config.overRounds ≤ (v.modFeed (Feed.measure (measuredLoad r))).feed.overRun :=
      (Nat.succ_le_succ full).trans_eq run.symm
    unfold monitorFeed
    dsimp only
    rw [feed, clear, if_neg (by decide), if_pos counted]
  have measures : v.scan.channels[(14 : ChanNo)].measured = some r := by rw [scan]; exact measured
  rw [last, measures, sheds]
  constructor
  · refine ((serveIfDue_keeps _).conditions Cond.feedOverload.index).1 ?_
    exact overloadShed_flag _
  · intro d
    obtain ⟨duty, window, heat⟩ := overloadShed_cold (v.modFeed (Feed.measure (measuredLoad r))) d
    refine ⟨duty, window, fun shown active => heat ?_ ?_⟩
    · exact (present d).trans shown
    · exact (link d).trans active

/-- R89: the reference mode and its runs, by the sample of channel 15. -/
theorem record_reference (raws : Vector Raw 16) (x : Scan) :
    (let inWindow := 2008 ≤ raws[15].toNat ∧ raws[15].toNat ≤ 2088
    let y := x.record raws
    (x.mode = .normal → inWindow → y.mode = .normal ∧ y.outRun = 0 ∧ y.inRun = x.inRun) ∧
    (x.mode = .normal → ¬ inWindow → x.outRun < 2 → y.mode = .normal ∧ y.outRun = x.outRun + 1 ∧ y.inRun = x.inRun) ∧
    (x.mode = .normal → ¬ inWindow → 2 ≤ x.outRun → y.mode = .fault ∧ y.outRun = 0 ∧ y.inRun = 0) ∧
    (x.mode = .fault → ¬ inWindow → y.mode = .fault ∧ y.inRun = 0 ∧ y.outRun = x.outRun) ∧
    (x.mode = .fault → inWindow → x.inRun < 2 → y.mode = .fault ∧ y.inRun = x.inRun + 1 ∧ y.outRun = x.outRun) ∧
    (x.mode = .fault → inWindow → 2 ≤ x.inRun → y.mode = .normal ∧ y.outRun = 0 ∧ y.inRun = 0)) := by
  have recorded := record_eq raws x
  dsimp only at recorded
  have window : (convert 15 raws[15]).isSome = decide (2008 ≤ raws[15].toNat ∧ raws[15].toNat ≤ 2088) := by
    have value : convert 15 raws[15] = if 2008 ≤ raws[15].toNat ∧ raws[15].toNat ≤ 2088 then some (.number (raws[15].toNat : Int)) else none :=
      convert_eq 15 raws[15]
    rw [value]
    split
    case isTrue h => rw [decide_eq_true h]; rfl
    case isFalse h => rw [decide_eq_false h]; rfl
  rw [window] at recorded
  dsimp only
  generalize x.record raws = y at recorded ⊢
  have mode : y.mode = _ := congrArg Scan.mode recorded
  have outRun : y.outRun = _ := congrArg Scan.outRun recorded
  have inRun : y.inRun = _ := congrArg Scan.inRun recorded
  rw [mode, outRun, inRun]
  unfold Scan.judgeReference
  refine ⟨?_, ?_, ?_, ?_, ?_, ?_⟩
  · intro normal inside
    rw [normal, decide_eq_true inside]
    exact ⟨rfl, rfl, rfl⟩
  · intro normal outside few
    rw [normal, decide_eq_false outside]
    dsimp only
    rw [if_neg (by show ¬ 3 ≤ x.outRun + 1; omega)]
    exact ⟨rfl, rfl, rfl⟩
  · intro normal outside many
    rw [normal, decide_eq_false outside]
    dsimp only
    rw [if_pos (by show 3 ≤ x.outRun + 1; omega)]
    exact ⟨rfl, rfl, rfl⟩
  · intro fault outside
    rw [fault, decide_eq_false outside]
    exact ⟨rfl, rfl, rfl⟩
  · intro fault inside few
    rw [fault, decide_eq_true inside]
    dsimp only
    rw [if_neg (by show ¬ 3 ≤ x.inRun + 1; omega)]
    exact ⟨rfl, rfl, rfl⟩
  · intro fault inside many
    rw [fault, decide_eq_true inside]
    dsimp only
    rw [if_pos (by show 3 ≤ x.inRun + 1; omega)]
    exact ⟨rfl, rfl, rfl⟩

/-- R130: the linger after the readings of two sensors, each by itself. -/
theorem lingerTwice_eq (on wet0 wet1 : Bool) (full0 full1 : Prop) [Decidable full0] [Decidable full1] (limit : Nat) (linger : Option Nat) :
    (if ((on || decide full0) = true ∧ wet1 = true) ∨ full1 then some limit
      else if (on = true ∧ wet0 = true) ∨ full0 then some limit else linger) =
      if (on = true ∧ (wet0 = true ∨ wet1 = true)) ∨ full0 ∨ full1 then some limit else linger := by
  simp only [Bool.or_eq_true, decide_eq_true_eq]
  by_cases second : ((on = true ∨ full0) ∧ wet1 = true) ∨ full1
  · rw [if_pos second, if_pos (by tauto)]
  · rw [if_neg second]
    by_cases first : (on = true ∧ wet0 = true) ∨ full0
    · rw [if_pos first, if_pos (by tauto)]
    · rw [if_neg first, if_neg (by tauto)]

/-- The two precipitation readings, each in its place. -/
theorem precipPair_getElem (v : Vector Precip 2) (a b : Precip) :
    ((v.set (0 : SensorNo) a).set (1 : SensorNo) b)[(0 : SensorNo)] = a ∧
    ((v.set (0 : SensorNo) a).set (1 : SensorNo) b)[(1 : SensorNo)] = b :=
  ⟨(getElem_set_other _ _ _ _ (by decide)).trans (getElem_set_same _ _ _), getElem_set_same _ _ _⟩

/-- The melt weather after a round's zones and the readings of its two precipitation sensors. -/
theorem weatherAfter_eq (x : Senses) :
    (let w := x.weather
    let wet0 := x.scan.channels[(12 : ChanNo)].wet
    let wet1 := x.scan.channels[(13 : ChanNo)].wet
    let run0 := nextRun wet0 w.precip[(0 : SensorNo)].run
    let run1 := nextRun wet1 w.precip[(1 : SensorNo)].run
    x.weatherAfter = { w with
      zones := x.zonesAfter
      precip := (w.precip.set 0 ⟨some wet0, run0⟩).set 1 ⟨some wet1, run1⟩
      on := w.on || decide (run0 = 4) || decide (run1 = 4)
      linger :=
        if (w.on = true ∧ (wet0 = true ∨ wet1 = true)) ∨ run0 = 4 ∨ run1 = 4 then some x.settings.snowLinger
        else w.linger }) := by
  have other (e : Precip) : (x.weather.precip.set (0 : SensorNo) e)[(1 : SensorNo)] = x.weather.precip[(1 : SensorNo)] :=
    getElem_set_other _ _ _ _ (by decide)
  dsimp only
  unfold Senses.weatherAfter
  rw [precipReading_eq, precipReading_eq]
  dsimp only
  rw [other]
  rw [lingerTwice_eq] <;> rfl

/-- Settles O29: the records of the round first, then every consumer's own sample. -/
theorem roundEndUpdatesEveryRecord : Obligations.RoundEndUpdatesEveryRecord := by
  unfold Obligations.RoundEndUpdatesEveryRecord
  constructor
  · intro raw s r converter round chan inWindow
    have ends : exec (.scanRoundEnd raw) s = .next (endRound (r.raws.set 15 raw) s) := by
      change execScanRoundEnd raw s = _
      unfold execScanRoundEnd
      rw [converter, round]
      dsimp only
      rw [if_pos chan]
    have reference := record_reference (r.raws.set 15 raw) s.scan
    have sample15 : (r.raws.set 15 raw)[15] = raw := Vector.getElem_set_self _
    have sample (k : ChanNo) (early : k.val < 15) : (r.raws.set 15 raw)[k] = r.raws[k] :=
      Vector.getElem_set_ne _ _ (by omega)
    have senses := endRound_senses (r.raws.set 15 raw) s
    have faulted := endRound_sensorFault (r.raws.set 15 raw) s
    have overloaded := endRound_overload (r.raws.set 15 raw) s
    have recorded := record_channel (r.raws.set 15 raw) s.scan
    have closed := closeRound_eq (r.raws.set 15 raw) s.siteTime s.scan converter
    generalize endRound (r.raws.set 15 raw) s = t at ends senses faulted overloaded
    generalize s.scan.closeRound (r.raws.set 15 raw) s.siteTime = x at senses overloaded closed
    generalize s.scan.record (r.raws.set 15 raw) = y at reference faulted recorded closed
    dsimp only at reference senses
    rw [sample15] at reference
    have scan : t.scan = x := congrArg Senses.scan senses
    rw [← scan] at senses
    have cells (c : CellNo) : t.cells[c] =
        s.cells[c].sampled t.scan.channels[windChannel c].speed t.scan.channels[windChannel c].lost :=
      (congrArg (fun v : Vector Cell 8 => v[c]) (congrArg Senses.cells senses)).trans (cellsAfter_getElem _ c)
    have weather : t.meltWeather = _ := congrArg Senses.weather senses
    have feed : t.feed = s.feed.monitored t.scan.channels[(14 : ChanNo)].measured t.scan.channels[(14 : ChanNo)].lost :=
      congrArg Senses.feed senses
    rw [← scan] at closed overloaded
    have channels : t.scan.channels = y.channels := by rw [closed]
    have mode : t.scan.mode = y.mode := by rw [closed]
    have outRun : t.scan.outRun = y.outRun := by rw [closed]
    have inRun : t.scan.inRun = y.inRun := by rw [closed]
    rw [← channels, ← mode] at recorded
    rw [← mode, ← outRun, ← inRun] at reference
    rw [← mode] at faulted
    rw [← channels, ← mode, ← outRun, ← inRun] at closed
    have early (k : ChanNo) (h : k.val < 15) : t.scan.channels[k] = (s.scan.channels[k].endRound t.scan.mode k r.raws[k]).judgeLost := by
      rw [recorded k, if_pos h, sample k h]
    obtain ⟨inside, outsideFew, outsideMany, faultOutside, faultFew, faultMany⟩ := reference
    refine ⟨t, ends, closed, ?_, ?_, inside, outsideFew, ?_, faultOutside, faultFew, faultMany, ?_, ?_, ?_, ?_⟩
    · rw [recorded 15, if_neg (by decide)]
      exact congrArg (fun v => (Channel.takeIn 15 v s.scan.channels[(15 : ChanNo)]).judgeLost) sample15
    · intro k h
      rw [early k h]
      unfold Channel.endRound
      cases t.scan.mode with
      | normal => rw [if_pos rfl]
      | fault => rw [if_neg nofun]
    · intro normal outside many
      obtain ⟨fault, outs, ins⟩ := outsideMany normal outside many
      exact ⟨fault, outs, ins, faulted normal fault⟩
    · intro c k x lim good speed mean run high lost judged
      have wind : (windChannel c).val < 8 := c.isLt
      have after : t.cells[c] = s.cells[c].sampled (if good then some speed else none) lost := by
        refine (cells c).trans (congrArg (fun o => s.cells[c].sampled o lost) ?_)
        rw [early (windChannel c) (Nat.lt_of_lt_of_le wind (by decide)), (judgeLost_handed _).1]
        exact endRound_speed _ _ _ _ wind
      refine ⟨fun isGood => ?_, fun bad isLost => ?_, fun bad kept => ?_⟩
      · refine after.trans ?_
        rw [if_pos isGood, sampled_good]
        rfl
      · refine after.trans ?_
        rw [if_neg bad, sampled_missed, if_pos isLost]
        rfl
      · refine after.trans ?_
        rw [if_neg bad, sampled_missed, if_neg (by rw [kept]; decide)]
        rfl
    · intro z ch
      have zones : t.meltWeather.zones = _ := congrArg MeltWeather.zones (weather.trans (weatherAfter_eq _))
      rw [zones]
      exact zonesAfter_getElem _ z
    · intro w wet run0 run1
      have readings := weather.trans (weatherAfter_eq _)
      dsimp only at readings
      have wet0 : t.scan.channels[(12 : ChanNo)].wet = wet 12 := wet_eq _
      have wet1 : t.scan.channels[(13 : ChanNo)].wet = wet 13 := wet_eq _
      rw [wet0, wet1] at readings
      have precip : t.meltWeather.precip = _ := congrArg MeltWeather.precip readings
      have on : t.meltWeather.on = _ := congrArg MeltWeather.on readings
      have linger : t.meltWeather.linger = _ := congrArg MeltWeather.linger readings
      have boundary : t.meltWeather.lastBoundary = _ := congrArg MeltWeather.lastBoundary readings
      refine ⟨?_, ?_, on, linger, boundary⟩
      · rw [precip]
        exact (precipPair_getElem _ _ _).1
      · rw [precip]
        exact (precipPair_getElem _ _ _).2
    · intro f load heavy
      have measured : t.scan.channels[(14 : ChanNo)].measured = if t.scan.mode = .normal then some r.raws[(14 : ChanNo)] else none := by
        rw [early 14 (by decide), (judgeLost_handed _).2.1, endRound_measured]
      refine ⟨fun fault => ?_, fun normal overload => ?_, fun normal clear light => ?_, fun normal clear heavyLoad full => ?_⟩
      · rw [feed, measured, fault, if_neg nofun, monitored_none]
      · rw [feed, measured, normal, if_pos rfl, monitored_overload _ _ _ overload]
      · rw [feed, measured, normal, if_pos rfl, monitored_clear _ _ _ clear]
        exact if_neg light
      · rw [normal, if_pos rfl] at measured
        refine ⟨?_, overloaded _ measured clear heavyLoad full⟩
        rw [feed, measured, monitored_clear _ _ _ clear]
        exact if_pos ⟨heavyLoad, full⟩
  · intro k raw c n figure
    exact ⟨convert_eq k raw, fun v h => takeIn_of_some c h, takeIn_of_none c, rfl, judgeLost_eq c⟩

end Machine
end Sys2Proof
end

section
/-! PROOFS. The records as the look-ups show them, field by field (R20, R59, R84, R99, R125, R142, R178, R194); for O27. -/

namespace Sys2Proof
namespace Machine

/-! ### Flags, bits and named values (R194) -/

theorem firstOfTwo_eq (b : Bool) : firstOfTwo b = put8 (if b = true then 0 else 1) := by cases b <;> rfl

theorem toNat_eq_ite (b : Bool) : b.toNat = if b = true then 1 else 0 := by cases b <;> rfl

/-! ### The dish and its bus record (R20, R178) -/

theorem putDish_eq (s : State) (d : DishNo) :
    (let x := s.dishes[d]
    let desc := x.desc
    putDish s d =
      putFlag x.present ++ put8 desc.cell.val ++ put8 desc.zone.val ++ putAngle desc.az.lower ++ putAngle desc.az.upper ++
      put24 desc.el.lower.toNat ++ put24 desc.el.upper.toNat ++ put16 desc.az.vMax ++ put16 desc.el.vMax ++ put16 desc.az.aMax ++
      put16 desc.el.aMax ++ put8 desc.pDrive ++ put8 desc.pMelt ++ put24 desc.stowEl.toNat ++ put8 x.motion.number ++
      putFlag x.returnMark ++ putOption (fun g => put8 g.val) x.group ++
      putOption (fun (a : Angles) => putAngle a.az ++ putAngle a.el) x.targets ++
      putOption (fun (c : CutReason) => put8 c.number) x.cutReason ++ putOption put16 x.quiet ++
      (match x.observed with
        | none => put8 0 ++ put8 0 ++ put8 0 ++ put8 0 ++ put8 0
        | some o =>
          put8 1 ++ putAngle o.position.az ++ putAngle o.position.el ++ put8 1 ++ put8 o.azState.number ++ put8 1 ++
          put8 o.elState.number ++ put8 1 ++ put8 o.fault.number ++ put8 1 ++ put8 (if o.heaterOn = true then 0 else 1)) ++
      putCoverage (s.coverage d) ++ putFlag (s.cells[desc.cell].state = .stow) ++
      putOption (fun (r : BlockedReason) => put8 r.number) (s.blocked d) ++ putFlag s.circuits[d].iced) := by
  have demand : s.stowDemand d = decide (s.cells[s.dishes[d].desc.cell].state = .stow) :=
    Bool.eq_iff_iff.mpr (by unfold State.stowDemand; rw [beq_iff_eq, decide_eq_true_iff])
  dsimp only
  unfold putDish putDescription
  dsimp only
  rw [demand]
  cases s.dishes[d].observed with
  | none =>
    unfold putObserved
    simp only [List.append_assoc] <;> rfl
  | some o =>
    unfold putObserved putAngles
    dsimp only
    rw [firstOfTwo_eq]
    simp only [List.append_assoc] <;> rfl

theorem putBus_eq (b : BusRecord) : putBus b =
      put8 b.link.number ++ put8 b.failures ++ putOption (fun (e : Stage) => put8 e.number) b.lastStage ++ put16 b.goodCount ++
      putOption put8 b.countdown ++ putFlag b.fresh ++
      putList (fun (o : Order) =>
        match o with
        | .setpoint sp =>
          put8 0 ++ put8 (match sp.kind with | .slew _ => 0 | .stow => 1) ++ putAngle sp.az.target ++ put16 sp.az.rate ++
          put16 sp.az.accel ++ putAngle sp.el.target ++ put16 sp.el.rate ++ put16 sp.el.accel
        | .hold => put8 1
        | .cut => put8 2) b.orders ++
      put8 (match b.heat with | none => 0 | some true => 1 | some false => 2) ++ putFlag b.inFlight.isSome := by
  have heat : putHeat b.heat = put8 (match b.heat with | none => 0 | some true => 1 | some false => 2) := by
    rcases b.heat with _ | (_ | _) <;> rfl
  have orders : putOrder = (fun (o : Order) =>
        match o with
        | .setpoint sp =>
          put8 0 ++ put8 (match sp.kind with | .slew _ => 0 | .stow => 1) ++ putAngle sp.az.target ++ put16 sp.az.rate ++
          put16 sp.az.accel ++ putAngle sp.el.target ++ put16 sp.el.rate ++ put16 sp.el.accel
        | .hold => put8 1
        | .cut => put8 2) := by
    funext o
    cases o <;> rfl
  unfold putBus
  rw [heat, orders]

/-! ### The group, the budget and the scan (R59, R84, R99) -/

theorem putGroup_eq (g : GroupNo) (gr : Group) : putGroup g gr =
      put8 g.val ++ put8 gr.state.number ++ put24 gr.target.az.toNat ++ put24 gr.target.el.toNat ++
      putOption (fun (c : Clock) => put32 c.toNat) gr.startStamp ++ putOption put32 gr.tMove ++ putOption put32 gr.tG ++
      putOption put32 gr.startInstant ++
      putList (fun (m : Member) =>
        put8 m.dish.val ++ putOption (fun (o : Angles) => putInt16 o.az ++ putInt16 o.el) m.offsets ++ put8 m.sub.number ++
        putFlag m.clamped ++
        putOption (fun (p : Profile) => put16 p.azRate ++ put16 p.azAccel ++ put16 p.elRate ++ put16 p.elAccel) m.profile ++
        putOption (fun (a : Angles) => putAngle a.az ++ putAngle a.el) m.targets ++ putOption put32 m.start ++
        putOption put32 m.deadline ++ putOption (fun (c : Clock) => put32 c.toNat) m.arrival) gr.members ++
      putList (fun (e : DishNo × RemovalReason) => put8 e.1.val ++ put8 e.2.number) gr.removals := rfl

theorem nextBoundary_eq (s : State) : s.nextBoundary = (s.meltWeather.lastBoundary.map (· + 1600)).getD 0 := by
  unfold State.nextBoundary
  cases s.meltWeather.lastBoundary <;> rfl

theorem putBudget_eq (s : State) :
    (let f := s.feed
    let c : Int := f.capacity
    let dr : Int := sumDrive s.drive
    putBudget s =
      put16 f.capacity ++ put8 f.meltFloor ++ putInt16 dr ++ putInt16 (sumMelt s.grants) ++ putInt16 (c - dr - sumMelt s.grants) ++
      putInt16 (c - dr - sumFloor s.grants f.meltFloor) ++ putInt16 (c - dr) ++ putFlag f.overload ++ put8 f.overRun ++
      put8 f.quietRun ++ putOption put16 f.lMeas ++ putFlag f.lost ++ put8 f.pass2.val ++
      put32 ((s.meltWeather.lastBoundary.map (· + 1600)).getD 0) ++
      allDishes.flatMap (fun d =>
        put8 s.drive[d].level ++ putOption (fun (k : ResKind) => put8 k.number) s.drive[d].kind ++ put8 s.grants[d].duty ++
        put8 s.grants[d].rate ++ putInt16 (ceilDiv (s.grants[d].rate * s.grants[d].duty) 16))) := by
  dsimp only
  unfold putBudget
  rw [nextBoundary_eq] <;> rfl

theorem putConverted_eq (v : Converted) : putConverted v =
    match v with
    | .number n => putInt16 n
    | .wetness wet => put8 (if wet = true then 0 else 1) := by
  cases v with
  | number n => rfl
  | wetness wet => exact firstOfTwo_eq wet

theorem putScan_eq (x : Scan) : putScan x =
      (List.finRange 16).flatMap (fun k =>
        let c := x.channels[k]
        putOption (fun (r : Raw) => put16 r.toNat) c.lastRaw ++
        putOption (fun (v : Converted) =>
          match v with
          | .number n => putInt16 n
          | .wetness wet => put8 (if wet = true then 0 else 1)) c.value ++
        put8 c.status.number ++ put8 c.bad ++ put16 c.age ++ putFlag c.lost) ++
      put8 x.mode.number ++ put8 x.outRun ++ put8 x.inRun ++
      putOption (fun (p : Spot) => put8 p.chan.val ++ put8 (if p.converting = true then 1 else 0)) x.spot ++
      putOption put32 x.lastEnd := by
  have spot : (fun p : Spot => put8 p.chan.val ++ put8 p.converting.toNat) =
      fun p : Spot => put8 p.chan.val ++ put8 (if p.converting = true then 1 else 0) :=
    funext fun p => by rw [toNat_eq_ite]
  have value : putConverted = fun v : Converted =>
      match v with
      | .number n => putInt16 n
      | .wetness wet => put8 (if wet = true then 0 else 1) := funext putConverted_eq
  unfold putScan putChannel
  rw [spot, value] <;> rfl

/-! ### The cell (R125) -/

theorem putCellLookUp_eq (c : CellNo) (s : State) :
    (let x := s.cells[c]
    let l := x.limits
    let ds := allDishes.filter (fun d => s.dishes[d].present = true ∧ s.dishes[d].desc.cell = c)
    putCellLookUp s c =
      put16 x.mean ++ putOption put16 x.last ++ put8 x.gustRun ++ putOption put16 x.runHigh ++ putOption put16 x.peak ++
      put8 x.state.number ++ putReasons x.reasons ++ putOption put24 x.holdDown ++ putFlag x.sensorLost ++ put8 x.goodRounds ++
      put16 l.watch ++ put16 l.stowMean ++ put16 l.gust ++ put16 l.release ++ put24 l.holdDown ++
      put8 (ds.countP (fun d => s.dishes[d].motion = .stowing)) ++ put8 (ds.countP (fun d => s.dishes[d].motion = .stowed)) ++
      put8 (ds.countP (fun d => (s.blocked d).isSome)) ++
      putList (fun (d : DishNo) =>
        put8 d.val ++ put8 s.dishes[d].motion.number ++ putOption (fun (r : BlockedReason) => put8 r.number) (s.blocked d)) ds ++
      putList (fun (e : DishNo × StowMove) =>
        put8 e.1.val ++ put32 e.2.time ++ put32 e.2.margin ++ putOption put32 e.2.start ++ putOption put32 e.2.deadline)
        (ds.filterMap (fun d => if s.dishes[d].motion = .stowing then s.stowMoves[d].map (fun m => (d, m)) else none)) ++
      putList (fun (d : DishNo) => put8 d.val) s.stowQueue ++
      put8 (if ∃ k : CellNo, s.cells[k].state = .stow then 0 else 1) ++ put16 s.siteCode.toNat ++
      (match s.detector with
        | .disabled => put8 0 ++ put8 0
        | .sync n => put8 1 ++ put8 1 ++ put8 n
        | .code p => put8 2 ++ put8 1 ++ put8 p) ++
      put32 s.siteTime) := by
  have counted (m : MotionState) : (fun d : DishNo => s.dishes[d].motion == m) = fun d => decide (s.dishes[d].motion = m) :=
    funext fun d => Bool.eq_iff_iff.mpr (by rw [beq_iff_eq, decide_eq_true_iff])
  have line : firstOfTwo s.stowLine = put8 (if ∃ k : CellNo, s.cells[k].state = .stow then 0 else 1) := by
    rw [firstOfTwo_eq]
    simp only [stowLine_iff]
  dsimp only
  unfold putCellLookUp putCell cellMoves State.stowingCount State.stowedCount State.blockedCount putLimits
  dsimp only
  rw [line, counted, counted, cellDishes_eq]
  cases s.detector with
  | disabled => simp only [List.append_assoc] <;> rfl
  | sync n => simp only [List.append_assoc] <;> rfl
  | code p => simp only [List.append_assoc] <;> rfl

/-! ### The melt circuit (R142) -/

theorem putMeltLookUp_eq (d : DishNo) (s : State) :
    (let c := s.circuits[d]
    let w := s.meltWeather
    let zone := s.dishes[d].desc.zone
    let pick := fun (first : Bool) => put8 (if first = true then 0 else 1)
    let sensor := fun (p : Precip) => putOption pick p.reading ++ put8 p.run
    putMeltLookUp s d =
      put8 c.mode.number ++ put8 c.forcedDuty ++ put8 c.demand ++ put8 s.grants[d].duty ++ put16 (d.val % 16 * 100) ++
      pick c.window.isSome ++ putOption (fun (v : Window) => put32 v.opened) c.window ++
      putOption (fun (v : Window) => put32 v.closes) c.window ++ putOption (fun (v : Window) => put8 v.kind.number) c.window ++
      put16 c.arrears ++ putFlag c.iced ++ put8 s.grants[d].rate ++
      putInt16 (ceilDiv (s.grants[d].rate * s.grants[d].duty) 16) ++ put8 zone.val ++ putOption putInt16 w.zones[zone].temp ++
      put8 w.zones[zone].status.number ++ putOption (fun (o : Observed) => pick o.heaterOn) s.dishes[d].observed ++
      putFlag (s.bus[d].link = .active) ++ pick w.on ++ sensor w.precip[(0 : SensorNo)] ++ sensor w.precip[(1 : SensorNo)] ++
      putOption put24 w.linger ++ put8 s.feed.meltFloor ++ put16 s.settings.iceLimit ++ put24 s.settings.snowLinger ++
      put16 s.settings.settleMargin ++ put16 s.settings.arrivalWindow ++ putAngle s.settings.watchFloor ++
      put32 ((w.lastBoundary.map (· + 1600)).getD 0) ++ put32 s.siteTime) := by
  have pick : firstOfTwo = fun (first : Bool) => put8 (if first = true then 0 else 1) := funext firstOfTwo_eq
  have linked : s.linked d = decide (s.bus[d].link = .active) := Bool.eq_iff_iff.mpr (by rw [linked_iff, decide_eq_true_iff])
  dsimp only
  unfold putMeltLookUp putCircuit putPrecip putSettings limitsParams
  dsimp only
  rw [pick, linked, nextBoundary_eq]
  simp only [List.append_assoc] <;> rfl

end Machine
end Sys2Proof
end

section
/-! PROOFS. The eight look-ups and the measures they read (O27). -/

namespace Sys2Proof
namespace Machine

/-! ### The tag table (R144, R158) -/

theorem tagsOn_eq (s : State) (d : DishNo) :
    tagsOn s d = allTags.filterMap (fun k => s.tags[k].bind (fun t => if t.dish = d then some (k, t) else none)) := by
  unfold tagsOn
  congr 1
  funext k
  cases s.tags[k] <;> rfl

theorem mem_tagsOn (s : State) (d : DishNo) (k : TagNo) (t : Tag) : (k, t) ∈ tagsOn s d ↔ s.tags[k] = some t ∧ t.dish = d := by
  rw [tagsOn_eq, List.mem_filterMap]
  constructor
  · rintro ⟨j, -, found⟩
    obtain ⟨u, full, named⟩ := Option.bind_eq_some_iff.mp found
    split at named
    case isTrue dish =>
      obtain ⟨rfl, rfl⟩ := Prod.mk.inj (Option.some.inj named)
      exact ⟨full, dish⟩
    case isFalse => cases named
  · rintro ⟨full, dish⟩
    exact ⟨k, mem_allTags k, by rw [full]; exact if_pos dish⟩

theorem emptySlots_length (s : State) : (emptySlots s).length = allTags.countP (fun k => s.tags[k].isNone) := List.countP_eq_length_filter.symm

/-- An item of the coverage that a slot gives a dish. -/
theorem slotCoverage_item (item : Coverage → Bool) (bare : item ⟨false, false, false⟩ = false) (d : DishNo) (o : Option Tag) :
    item (slotCoverage d o) = true ↔ ∃ t ∈ o, t.dish = d ∧ item t.scope.coverage = true := by
  cases o with
  | none =>
    refine iff_of_false (fun h => ?_) (fun ⟨_, h, _⟩ => by cases h)
    exact Bool.false_ne_true (bare.symm.trans h)
  | some t =>
    unfold slotCoverage
    dsimp only
    split
    case isTrue dish => exact ⟨fun h => ⟨t, rfl, dish, h⟩, fun ⟨u, same, _, h⟩ => by rw [Option.some.inj same]; exact h⟩
    case isFalse other =>
      refine iff_of_false (fun h => Bool.false_ne_true (bare.symm.trans h)) fun ⟨u, same, dish, _⟩ => other ?_
      rw [Option.some.inj same]
      exact dish

/-- R144: what the tags that name a dish cover, item by item. -/
theorem coverage_items (s : State) (d : DishNo) :
    ((s.coverage d).az = true ↔ ∃ k : TagNo, ∃ t ∈ s.tags[k], t.dish = d ∧ t.scope.coverage.az = true) ∧
    ((s.coverage d).el = true ↔ ∃ k : TagNo, ∃ t ∈ s.tags[k], t.dish = d ∧ t.scope.coverage.el = true) ∧
    ((s.coverage d).melt = true ↔ ∃ k : TagNo, ∃ t ∈ s.tags[k], t.dish = d ∧ t.scope.coverage.melt = true) := by
  have some_slot (p : TagNo → Bool) : allTags.any p = true ↔ ∃ k, p k = true :=
    List.any_eq_true.trans ⟨fun ⟨k, _, h⟩ => ⟨k, h⟩, fun ⟨k, h⟩ => ⟨k, mem_allTags k, h⟩⟩
  unfold State.coverage
  rw [coverageIn_eq]
  dsimp only
  refine ⟨?_, ?_, ?_⟩
  · exact (some_slot _).trans (exists_congr fun k => slotCoverage_item Coverage.az rfl d _)
  · exact (some_slot _).trans (exists_congr fun k => slotCoverage_item Coverage.el rfl d _)
  · exact (some_slot _).trans (exists_congr fun k => slotCoverage_item Coverage.melt rfl d _)

theorem scopeCoverage_az (a : Scope) : a.coverage.az = true ↔ a = .az ∨ a = .motion ∨ a = .all := by cases a <;> decide

theorem scopeCoverage_el (a : Scope) : a.coverage.el = true ↔ a = .el ∨ a = .motion ∨ a = .all := by cases a <;> decide

theorem scopeCoverage_melt (a : Scope) : a.coverage.melt = true ↔ a = .melt ∨ a = .all := by cases a <;> decide

theorem overlaps_iff (a b : Scope) : a.overlaps b = true ↔
    (a.coverage.az = true ∧ b.coverage.az = true) ∨ (a.coverage.el = true ∧ b.coverage.el = true) ∨
    (a.coverage.melt = true ∧ b.coverage.melt = true) := by
  unfold Scope.overlaps
  simp only [Bool.or_eq_true, Bool.and_eq_true, or_assoc]

theorem blocked_eq (s : State) (d : DishNo) : s.blocked d =
    if s.cells[s.dishes[d].desc.cell].state ≠ .stow then none
    else
      match s.dishes[d].motion with
      | .restrained => some .restrained
      | .cut => some .cut
      | .unreachable => some .unreachable
      | .stopping => some .stopping
      | .locked => if (s.coverage d).el = true then some .lockedEl else none
      | _ => none := by
  unfold State.blocked State.stowDemand
  by_cases stow : s.cells[s.dishes[d].desc.cell].state = .stow
  · rw [if_pos (beq_iff_eq.mpr stow), if_neg (not_not.mpr stow)] <;> rfl
  · rw [if_neg (mt beq_iff_eq.mp stow), if_pos stow]

/-! ### The measures of power (R68, R70, TABLE 4.3) -/

theorem floorLevel_le (v : Vector MeltGrant 48) (floor : Nat) : sumFloor v floor ≤ sumMelt v := by
  refine List.sum_le_sum fun d _ => ?_
  exact meltReservation_mono _ (min_le_left _ _)

theorem powers_ordered (s : State) : s.pFree ≤ s.pAvail ∧ s.pAvail ≤ s.pStow ∧ (PowerLaw s → 0 ≤ s.pFree) := by
  have floors := floorLevel_le s.grants s.feed.meltFloor
  unfold PowerLaw State.pFree State.pAvail State.pStow
  omega

/-! ### Bits and numbers -/

theorem putCoverage_eq (c : Coverage) : putCoverage c = put8
    ((if c.az = true then 1 else 0) + (if c.el = true then 2 else 0) + (if c.melt = true then 4 else 0)) := by
  rcases c with ⟨az, el, melt⟩
  cases az <;> cases el <;> cases melt <;> rfl

theorem putReasons_eq (x : Reasons) : putReasons x = put8
    ((if x.wind = true then 1 else 0) + (if x.gust = true then 2 else 0) + (if x.sensor = true then 4 else 0) +
     (if x.forced = true then 8 else 0) + (if x.external = true then 16 else 0)) := by
  have bit (n : Nat) (b : Bool) : n * b.toNat = if b = true then n else 0 := by cases b <;> simp
  unfold putReasons
  rw [bit, bit, bit, bit, toNat_eq_ite]

/-- A look-up's answer reads the state as it stood before the run began, whose port alone has changed. -/
theorem lookUp_answers (r : Request) (s : State) (results : State → List Byte) (h : ∀ p, results { s with port := p } = results s) :
    endRequest r (answeredWith (s.begun r) .ok (results (s.begun r))) = s.replied r .ok (results s) := by
  have read : results (s.begun r) = results s := by
    obtain ⟨p, e⟩ := begun_port r s
    rw [e]
    exact h p
  unfold answeredWith
  rw [endRequest_answered, read]
  rfl

/-- Settles O27: every look-up answers by the record that its field names, which the lemmas above write out. -/
theorem lookUpsAnswerTheRecordAndChangeNothing : Obligations.LookUpsAnswerTheRecordAndChangeNothing := by
  unfold Obligations.LookUpsAnswerTheRecordAndChangeNothing
  refine ⟨?_, ?_, ?_, ?_, ?_, ?_, ?_, ?_, ?_, ?_, ?_, ?_, ?_⟩
  · intro label n s
    refine ⟨?_, ?_, ?_, ?_, ?_, ?_, ?_, ?_⟩
    · intro ready
      refine (runRequest_ready ⟨0x13, label, [n]⟩ (lookUpDish n.toNat) s ready).trans (congrArg _ ?_)
      unfold lookUpDish
      rcases asFin 48 n.toNat with _ | d
      · rfl
      · exact lookUp_answers ⟨0x13, label, [n]⟩ s (fun t => putDish t d ++ putBus t.bus[d]) fun p => rfl
    · intro ready
      refine (runRequest_ready ⟨0x27, label, [n]⟩ (lookUpGroup n.toNat) s ready).trans (congrArg _ ?_)
      have groups : (s.begun ⟨0x27, label, [n]⟩).groups = s.groups := by rw [begun_touches]
      unfold lookUpGroup
      rcases asFin 8 n.toNat with _ | g
      · rfl
      · dsimp only
        rw [groups]
        rcases s.groups[g] with _ | gr
        · rfl
        · exact lookUp_answers ⟨0x27, label, [n]⟩ s (fun t => putGroup g gr ++ putSiteTime t) fun p => rfl
    · intro ready
      refine (runRequest_ready ⟨0x31, label, []⟩ lookUpBudget s ready).trans (congrArg _ ?_)
      exact lookUp_answers ⟨0x31, label, []⟩ s putBudget fun p => rfl
    · intro ready
      refine (runRequest_ready ⟨0x39, label, []⟩ lookUpChannels s ready).trans (congrArg _ ?_)
      exact lookUp_answers ⟨0x39, label, []⟩ s (fun t => putScan t.scan ++ putSiteTime t) fun p => rfl
    · intro ready
      refine (runRequest_ready ⟨0x41, label, [n]⟩ (lookUpCell n.toNat) s ready).trans (congrArg _ ?_)
      unfold lookUpCell
      rcases asFin 8 n.toNat with _ | c
      · rfl
      · exact lookUp_answers ⟨0x41, label, [n]⟩ s (fun t => putCellLookUp t c) fun p => rfl
    · intro ready
      refine (runRequest_ready ⟨0x52, label, [n]⟩ (lookUpMelt n.toNat) s ready).trans (congrArg _ ?_)
      unfold lookUpMelt
      rcases asFin 48 n.toNat with _ | d
      · rfl
      · exact lookUp_answers ⟨0x52, label, [n]⟩ s (fun t => putMeltLookUp t d) fun p => rfl
    · intro ready
      refine (runRequest_ready ⟨0x62, label, [n]⟩ (lookUpTag n.toNat) s ready).trans (congrArg _ ?_)
      have tags : (s.begun ⟨0x62, label, [n]⟩).tags = s.tags := by rw [begun_touches]
      unfold lookUpTag
      rcases asFin 64 n.toNat with _ | k
      · rfl
      · dsimp only
        rw [tags]
        rcases s.tags[k] with _ | tag
        · rfl
        · exact lookUp_answers ⟨0x62, label, [n]⟩ s
            (fun t => putTag k tag ++ putCoverage (t.coverage tag.dish) ++ put8 t.dishes[tag.dish].motion.number ++
              put8 t.bus[tag.dish].link.number ++ putSiteTime t ++ putClock t.arrayClock) fun p => rfl
    · intro ready
      refine (runRequest_ready ⟨0x63, label, [n]⟩ (listTags n.toNat) s ready).trans (congrArg _ ?_)
      unfold listTags
      rcases asFin 48 n.toNat with _ | d
      · rfl
      · refine (lookUp_answers ⟨0x63, label, [n]⟩ s
          (fun t => putList putListedTag (tagsOn t d) ++ putCoverage (t.coverage d) ++ put8 (emptySlots t).length) fun p => rfl).trans ?_
        rw [tagsOn_eq, emptySlots_length] <;> rfl
  · intro d s
    obtain ⟨az, el, melt⟩ := coverage_items s d
    simp only [scopeCoverage_az, scopeCoverage_el, scopeCoverage_melt] at az el melt
    exact ⟨mem_tagsOn s d, az, el, melt, blocked_eq s d⟩
  · exact fun a b => ⟨by cases a <;> rfl, overlaps_iff a b⟩
  · refine ⟨fun b => by cases b <;> rfl, fun α f => ⟨rfl, fun _ => rfl, fun _ => rfl⟩, fun v => ⟨rfl, rfl⟩, firstOfTwo_eq,
      putCoverage_eq, putReasons_eq⟩
  · decide
  · exact fun d s => ⟨putDish_eq s d, putBus_eq _⟩
  · exact putGroup_eq
  · exact putBudget_eq
  · exact putScan_eq
  · exact putCellLookUp_eq
  · exact putMeltLookUp_eq
  · exact fun v w floor => ⟨rfl, rfl, rfl⟩
  · exact fun s => ⟨rfl, rfl, rfl, powers_ordered s⟩

end Machine
end Sys2Proof
end

section
/-! PROOFS. What a new tag of motion scope does with its dish (O23), seen from the dish. -/

namespace Sys2Proof
namespace Machine

/-! ### What a lockout writes of a dish, and of the groups' removal lists -/

structure LockView where
  motion  : MotionState
  drive   : DriveRes
  move    : Option StowMove
  orders  : List Order
  removed : GroupNo → Option (DishNo × RemovalReason)

def State.lockView (d : DishNo) (s : State) : LockView where
  motion := s.dishes[d].motion
  drive := s.drive[d]
  move := s.stowMoves[d]
  orders := s.bus[d].orders
  removed g := s.groups[g].bind fun gr => gr.removals.getLast?

theorem goStopping_lockView {d : DishNo} {s : State} (h : s.dishes[d].motion ≠ .stopping) :
    (goStopping d false s).lockView d = { s.lockView d with
      motion := .stopping
      drive := s.drive[d].withKind .stop
      move := none
      orders := if s.bus[d].link = .active then postList .hold s.bus[d].orders else s.bus[d].orders } := by
  have groups : (goStopping d false s).groups = s.groups := by rw [goStopping_touches]
  obtain ⟨drive, bus, moves⟩ := goStopping_drive false h
  unfold State.lockView
  rw [groups, goStopping_dishes, drive, bus, moves, postMotion_bus_same, getElem_set_same, getElem_set_same, getElem_set_same, post_orders]

theorem goStopping_lockView_again {d : DishNo} {s : State} (h : s.dishes[d].motion = .stopping) :
    (goStopping d false s).lockView d = s.lockView d := by
  rw [goStopping_of_stopping false h, goStopping_dishes]
  unfold State.lockView
  dsimp only
  rw [getElem_set_same, h]

theorem settle_lockView {d : DishNo} {s : State} (el : (s.coverage d).el = true) :
    (settle d s).lockView d = { s.lockView d with motion := .locked } := by
  have locked : s.settlesTo d = .locked := by
    rw [settlesTo_eq, if_neg fun h => Bool.false_ne_true (h.2.symm.trans el), if_pos (Or.inr el)]
  rw [settle_eq, locked]
  unfold State.lockView
  dsimp only
  rw [getElem_set_same]
  rfl

theorem judgeGroup_lockView (g : GroupNo) (d : DishNo) (s : State) : (judgeGroup g s).lockView d = s.lockView d := by
  have removed (h : GroupNo) : ((judgeGroup g s).groups[h].bind fun gr => gr.removals.getLast?) =
      s.groups[h].bind fun gr => gr.removals.getLast? := by
    cases hg : s.groups[g] with
    | none =>
      unfold judgeGroup
      rw [hg]
    | some gr =>
      have judged (new : Group) (same : new.removals = gr.removals) : ((s.groups.set g (some new))[h].bind fun gr => gr.removals.getLast?) =
          s.groups[h].bind fun gr => gr.removals.getLast? := by
        by_cases here : h = g
        · subst here
          rw [getElem_set_same, hg]
          exact congrArg List.getLast? same
        · rw [getElem_set_other _ _ _ _ here]
      rw [judgeGroup_eq hg]
      split
      · exact judged _ rfl
      · split
        · exact judged _ rfl
        · rfl
  have touches := judgeGroup_touches g s
  generalize judgeGroup g s = u at touches removed
  unfold State.lockView
  rw [funext removed, touches]

/-! ### The lockout itself (R146, TABLE 8.3) -/

/-- What a removal with LOCKED writes. -/
def LockView.remove (g : GroupNo) (d : DishNo) (x : LockView) : LockView :=
  { x with removed := fun h => if h = g then some (d, .locked) else x.removed h }

/-- The record of a group that a dish has been removed from, and of the dish out of it. -/
def State.unlisted (g : GroupNo) (gr : Group) (d : DishNo) (s : State) : State :=
  { s with
    groups := s.groups.set g (some
      { gr with
        members := gr.members.filter (fun m => m.dish ≠ d)
        removals := gr.removals.filter (fun e => e.1 ≠ d) ++ [(d, .locked)] })
    dishes := s.dishes.set d { s.dishes[d] with group := none } }

theorem unlisted_lockView (g : GroupNo) (gr : Group) (d : DishNo) (s : State) :
    (s.unlisted g gr d).lockView d = (s.lockView d).remove g d := by
  have removed (h : GroupNo) : ((s.unlisted g gr d).groups[h].bind fun gr => gr.removals.getLast?) =
      if h = g then some (d, .locked) else s.groups[h].bind fun gr => gr.removals.getLast? := by
    unfold State.unlisted
    dsimp only
    split
    case isTrue here =>
      subst here
      rw [getElem_set_same]
      exact List.getLast?_concat
    case isFalse other => rw [getElem_set_other _ _ _ _ other]
  unfold State.lockView LockView.remove
  rw [funext removed]
  unfold State.unlisted
  dsimp only
  rw [getElem_set_same]

theorem unlisted_motion (g : GroupNo) (gr : Group) (d : DishNo) (s : State) :
    (s.unlisted g gr d).dishes[d].motion = s.dishes[d].motion := congrArg LockView.motion (unlisted_lockView g gr d s)

/-- R54: the transition of a removed dish, stopped if it moves or stops, else settled. -/
theorem lockTransition_lockView (g : GroupNo) (gr : Group) (m : Member) {d : DishNo} {s : State} (el : (s.coverage d).el = true) :
    (let t := s.unlisted g gr d
    (if m.sub = .moving ∨ t.dishes[d].motion = .stopping then goStopping d false t else settle d t).lockView d) = LockView.remove g d (
      if s.dishes[d].motion = .stopping then s.lockView d
      else if m.sub = .moving then
        { s.lockView d with
          motion := .stopping
          drive := s.drive[d].withKind .stop
          move := none
          orders := if s.bus[d].link = .active then postList .hold s.bus[d].orders else s.bus[d].orders }
      else { s.lockView d with motion := .locked }) := by
  have motion := unlisted_motion g gr d s
  have view := unlisted_lockView g gr d s
  dsimp only
  by_cases stopping : s.dishes[d].motion = .stopping
  · rw [if_pos (Or.inr (motion.trans stopping)), goStopping_lockView_again (motion.trans stopping), view, if_pos stopping]
  · have still : (s.unlisted g gr d).dishes[d].motion ≠ .stopping := fun h => stopping (motion.symm.trans h)
    rw [if_neg stopping]
    by_cases moving : m.sub = .moving
    · rw [if_pos (Or.inl moving), goStopping_lockView still, view, if_pos moving]
      rfl
    · rw [if_neg (fun h => h.elim moving still), settle_lockView (s := s.unlisted g gr d) el, view, if_neg moving]
      rfl

theorem takeLock_lockView_listed {d : DishNo} {g : GroupNo} {m : Member} {gained : Coverage} {s : State}
    (owner : s.memberOf d = some (g, m)) (motion : s.dishes[d].motion = .member ∨ s.dishes[d].motion = .stopping)
    (el : (s.coverage d).el = true) :
    (takeLock d gained s).lockView d = LockView.remove g d (
      if s.dishes[d].motion = .stopping then s.lockView d
      else if m.sub = .moving then
        { s.lockView d with
          motion := .stopping
          drive := s.drive[d].withKind .stop
          move := none
          orders := if s.bus[d].link = .active then postList .hold s.bus[d].orders else s.bus[d].orders }
      else { s.lockView d with motion := .locked }) := by
  obtain ⟨gr, hg, -, -⟩ := memberOf_some owner
  have taken : takeLock d gained s = removeMember g d .locked
      (fun t => if m.sub = .moving ∨ t.dishes[d].motion = .stopping then goStopping d false t else settle d t) s := by
    rw [takeLock_eq]
    rcases motion with h | h
    · dsimp only
      rw [h, owner]
    · dsimp only
      rw [h, owner]
  rw [taken, removeMember_eq d .locked _ hg, judgeGroup_lockView]
  exact lockTransition_lockView g gr m el

/-! ### The rest of a placement leaves the dish (R116, R147) -/

theorem startStow_lockView_other (d e : DishNo) (s : State) (h : d ≠ e) : (startStow e s).lockView d = s.lockView d := by
  rw [startStow_eq]
  unfold State.lockView
  dsimp only
  rw [getElem_set_other _ _ _ _ h, getElem_set_other _ _ _ _ h, postMotion_bus_other _ _ _ _ h]

theorem serveHead_lockView_other (d e : DishNo) (s : State) (h : d ≠ e) : (serveHead e s).lockView d = s.lockView d := by
  have served := serveHead_eq e s
  dsimp only at served
  rw [served, startStow_lockView_other _ _ _ h]
  have shedding := shed_touches 0 (s.dishes[e].desc.pDrive + sumDrive s.drive + sumMelt s.grants - s.feed.capacity) s
  have orders := shed_orders 0 (s.dishes[e].desc.pDrive + sumDrive s.drive + sumMelt s.grants - s.feed.capacity) s d
  generalize shed 0 (s.dishes[e].desc.pDrive + sumDrive s.drive + sumMelt s.grants - s.feed.capacity) s = u at shedding orders
  unfold State.lockView
  dsimp only
  rw [getElem_set_other _ _ _ _ h, orders, shedding]

/-- A serve leaves a dish that does not wait for it. -/
theorem serve_lockView (queue : List DishNo) (d : DishNo) (s : State) (h : s.stowQueue = queue) (out : d ∉ queue) :
    (serve s).lockView d = s.lockView d ∧ d ∉ (serve s).stowQueue := by
  induction queue generalizing s with
  | nil =>
    rw [serve_nil h]
    exact ⟨rfl, by rw [h]; exact out⟩
  | cons e rest ih =>
    obtain ⟨other, out'⟩ := not_or.mp (mt List.mem_cons.mpr out)
    rw [serve_cons h]
    split
    case isTrue =>
      have queue := (serveHead_tables e { s with stowQueue := rest, serveDue := false }).1
      have head := serveHead_lockView_other d e { s with stowQueue := rest, serveDue := false } other
      generalize serveHead e { s with stowQueue := rest, serveDue := false } = v at queue head ⊢
      obtain ⟨view, later⟩ := ih v queue out'
      exact ⟨view.trans head, later⟩
    case isFalse => exact ⟨rfl, by rw [h]; exact out⟩

theorem serveIfDue_lockView {d : DishNo} {s : State} (out : d ∉ s.stowQueue) :
    (serveIfDue s).lockView d = s.lockView d ∧ d ∉ (serveIfDue s).stowQueue := by
  unfold serveIfDue
  split
  · exact serve_lockView _ d s rfl out
  · exact ⟨rfl, out⟩

theorem meltLockout_lockView (d e : DishNo) (s : State) : (meltLockout e s).lockView d = s.lockView d := by
  rw [meltLockout_eq]
  unfold State.lockView
  dsimp only
  rw [(postHeat_orders e d false s).1]

theorem meltLockout_queue (e : DishNo) (s : State) : (meltLockout e s).stowQueue = s.stowQueue := by rw [meltLockout_eq]

/-- A placement with new motion coverage leaves its dish as the lockout has left it. -/
theorem fillSlot_lockView {k : TagNo} {tag : Tag} {s : State}
    (gains : (((s.setTag k (some tag)).coverage tag.dish).beyond (s.coverage tag.dish)).motion = true)
    (out : tag.dish ∉ (takeLock tag.dish (((s.setTag k (some tag)).coverage tag.dish).beyond (s.coverage tag.dish))
      (s.setTag k (some tag))).stowQueue) :
    (fillSlot k tag s).lockView tag.dish =
      (takeLock tag.dish (((s.setTag k (some tag)).coverage tag.dish).beyond (s.coverage tag.dish)) (s.setTag k (some tag))).lockView tag.dish := by
  obtain ⟨served, waits⟩ := serveIfDue_lockView out
  have gained : (gainCoverage tag.dish (((s.setTag k (some tag)).coverage tag.dish).beyond (s.coverage tag.dish))
      (s.setTag k (some tag))).lockView tag.dish =
      (takeLock tag.dish (((s.setTag k (some tag)).coverage tag.dish).beyond (s.coverage tag.dish)) (s.setTag k (some tag))).lockView tag.dish ∧
      tag.dish ∉ (gainCoverage tag.dish (((s.setTag k (some tag)).coverage tag.dish).beyond (s.coverage tag.dish))
      (s.setTag k (some tag))).stowQueue := by
    unfold gainCoverage
    dsimp only
    rw [if_pos gains]
    split
    · rw [meltLockout_lockView, meltLockout_queue]
      exact ⟨served, waits⟩
    · exact ⟨served, waits⟩
  unfold fillSlot
  dsimp only
  refine (serveIfDue_lockView ?_).1.trans gained.1
  exact gained.2

/-! ### The new coverage of the dish (R144, R146) -/

theorem coverage_filled {k : TagNo} {tag : Tag} {s : State} {st : TagState} (el : tag.scope = .el ∨ tag.scope = .motion ∨ tag.scope = .all) {u : State}
    (tags : u.tags = s.tags.set k (some { tag with state := st })) : (u.coverage tag.dish).el = true := by
  refine (coverage_items u tag.dish).2.1.mpr ⟨k, { tag with state := st }, ?_, rfl, (scopeCoverage_el _).mpr el⟩
  rw [tags, getElem_set_same]
  exact Option.mem_some_self _

theorem fillSlot_tags (k : TagNo) (tag : Tag) (s : State) :
    ∃ st, (fillSlot k tag s).tags = s.tags.set k (some { tag with state := st }) := by
  refine ⟨(gainCoverage tag.dish (((s.setTag k (some tag)).coverage tag.dish).beyond (s.coverage tag.dish))
    (s.setTag k (some tag))).placedState tag.dish, ?_⟩
  · rw [fillSlot_eq, (serveIfDue_steady _).tags]
    unfold State.setTag
    dsimp only
    rw [gainCoverage_tags]
    exact Vector.set_set ..

/-- The lockout of a dish that no member list holds, or that is neither MEMBER nor STOPPING. -/
theorem takeLock_lockView_unlisted {d : DishNo} {gained : Coverage} {s : State} (owner : s.memberOf d = none) (el : gained.el = true) :
    (takeLock d gained s).lockView d =
      match s.dishes[d].motion with
      | .free => { s.lockView d with motion := .locked }
      | .stowQueued => { s.lockView d with motion := .locked }
      | .stowing =>
        { s.lockView d with
          motion := .stopping
          drive := s.drive[d].withKind .stop
          move := none
          orders := if s.bus[d].link = .active then postList .hold s.bus[d].orders else s.bus[d].orders }
      | _ => s.lockView d := by
  have locked (u : State) (hu : u = { s with
      dishes := s.dishes.set d { s.dishes[d] with motion := .locked }, stowQueue := u.stowQueue, serveDue := u.serveDue }) :
      u.lockView d = { s.lockView d with motion := .locked } := by
    rw [hu]
    unfold State.lockView
    dsimp only
    rw [getElem_set_same]
  rw [takeLock_eq]
  dsimp only
  cases motion : s.dishes[d].motion with
  | free => exact locked _ rfl
  | stowQueued =>
    dsimp only
    rw [if_pos el]
    exact locked _ rfl
  | stowing =>
    dsimp only
    rw [if_pos el]
    exact goStopping_lockView (by rw [motion]; nofun)
  | member | stopping =>
    rw [owner]
  | restrained | locked | stowed | cut | unreachable => rfl

/-- Settles O23: the lockout, followed through the rest of the placement. -/
theorem newMotionCoverageLocksOrStopsTheDish : Obligations.NewMotionCoverageLocksOrStopsTheDish := by
  unfold Obligations.NewMotionCoverageLocksOrStopsTheDish
  intro k tag s law empty quiet present az el scope d t
  have covered : ((s.setTag k (some tag)).coverage d).el = true := coverage_filled (st := tag.state) scope rfl
  have gainsEl : (((s.setTag k (some tag)).coverage d).beyond (s.coverage d)).el = true := by
    unfold Coverage.beyond
    dsimp only
    rw [covered, el]
    rfl
  have ok := (siteLaw_iff s).mp law d
  have view : t.lockView d =
      (takeLock d (((s.setTag k (some tag)).coverage d).beyond (s.coverage d)) (s.setTag k (some tag))).lockView d := by
    refine fillSlot_lockView ?_ ?_
    · exact (Bool.or_eq_true _ _).mpr (Or.inr gainsEl)
    · have after : ((takeLock d (((s.setTag k (some tag)).coverage d).beyond (s.coverage d)) (s.setTag k (some tag))).place d).Ok :=
        takeLock_ok (d := d) (old := s.coverage d) (s := s.setTag k (some tag)) ok el_of_beyond
      have tags := (takeLock_steady d (((s.setTag k (some tag)).coverage d).beyond (s.coverage d)) (s.setTag k (some tag))).tags
      generalize takeLock d (((s.setTag k (some tag)).coverage d).beyond (s.coverage d)) (s.setTag k (some tag)) = v at after tags ⊢
      have cover : (v.place d).cover.el = true := (congrArg (fun tags => (coverageIn tags d).el) tags).trans covered
      have queued := after.queued
      rw [if_neg (after.lockedEl cover).1] at queued
      exact List.count_eq_zero.mp queued
  have gone : ∀ g : GroupNo, d ∉ t.memberDishes g := by
    obtain ⟨st, tags⟩ := fillSlot_tags k tag s
    have after := (siteLaw_iff t).mp (fillSlot_kept empty law) d
    have cover : (t.coverage d).el = true := coverage_filled scope tags
    exact (unlisted_iff t d).mp (after.locked ((Bool.or_eq_true _ _).mpr (Or.inr cover))).2.2
  cases owner : s.memberOf d with
  | none =>
    have unlisted : ∀ g : GroupNo, d ∉ s.memberDishes g := (unlisted_iff s d).mp ((memberOf_none_iff s d).mp owner)
    have loose : s.dishes[d].motion ≠ .member := fun member => by
      obtain ⟨g, hg⟩ := Option.isSome_iff_exists.mp (ok.named member)
      exact unlisted g (List.count_pos_iff.mp (ok.listed (Or.inl member) g hg))
    rw [takeLock_lockView_unlisted (s := s.setTag k (some tag)) owner gainsEl] at view
    change t.lockView d = (match s.dishes[d].motion with
      | .free => { s.lockView d with motion := .locked }
      | .stowQueued => { s.lockView d with motion := .locked }
      | .stowing =>
        { s.lockView d with
          motion := .stopping
          drive := s.drive[d].withKind .stop
          move := none
          orders := if s.bus[d].link = .active then postList .hold s.bus[d].orders else s.bus[d].orders }
      | _ => s.lockView d) at view
    cases here : s.dishes[d].motion with
    | member => exact absurd here loose
    | free | stowQueued =>
      rw [here] at view
      have motion : t.dishes[d].motion = .locked := congrArg LockView.motion view
      exact ⟨gone, motion, fun stops _ => (nomatch motion.symm.trans stops), fun g listed => absurd listed (unlisted g)⟩
    | stowing =>
      rw [here] at view
      exact ⟨gone, congrArg LockView.motion view,
        fun _ _ => ⟨congrArg LockView.drive view, congrArg LockView.move view, congrArg LockView.orders view⟩,
        fun g listed => absurd listed (unlisted g)⟩
    | stopping =>
      rw [here] at view
      exact ⟨gone, (congrArg LockView.motion view).trans here, fun _ before => absurd rfl before, fun g listed => absurd listed (unlisted g)⟩
    | restrained | locked | stowed | cut | unreachable =>
      rw [here] at view
      have motion : t.dishes[d].motion = _ := (congrArg LockView.motion view).trans here
      exact ⟨gone, motion, fun stops _ => (nomatch motion.symm.trans stops), fun g listed => absurd listed (unlisted g)⟩
  | some e =>
    obtain ⟨g, m⟩ := e
    have listed := listed_of_memberOf owner
    have kind := (ok.member g listed).1
    rw [takeLock_lockView_listed (s := s.setTag k (some tag)) owner kind covered] at view
    change t.lockView d = LockView.remove g d (
      if s.dishes[d].motion = .stopping then s.lockView d
      else if m.sub = .moving then
        { s.lockView d with
          motion := .stopping
          drive := s.drive[d].withKind .stop
          move := none
          orders := if s.bus[d].link = .active then postList .hold s.bus[d].orders else s.bus[d].orders }
      else { s.lockView d with motion := .locked }) at view
    have last : ∀ h : GroupNo, d ∈ s.memberDishes h → (t.groups[h].bind fun gr => gr.removals.getLast?) = some (d, .locked) := by
      intro h hh
      have same : h = g := by
        have mine := (ok.member h (List.count_pos_iff.mpr hh)).2
        exact Option.some.inj (mine.symm.trans (ok.member g listed).2)
      exact (congrFun (congrArg LockView.removed view) h).trans (if_pos same)
    have moving : s.movingMember d = (m.sub == .moving) := by
      unfold State.movingMember
      rw [owner]
    rcases kind with member | stopping
    · have here : s.dishes[d].motion = .member := member
      rw [if_neg (by rw [here]; nofun)] at view
      rw [here, moving]
      by_cases moves : m.sub = .moving
      · rw [if_pos moves] at view
        rw [if_pos (beq_iff_eq.mpr moves)]
        exact ⟨gone, congrArg LockView.motion view,
          fun _ _ => ⟨congrArg LockView.drive view, congrArg LockView.move view, congrArg LockView.orders view⟩, last⟩
      · rw [if_neg moves] at view
        rw [if_neg (mt beq_iff_eq.mp moves)]
        have motion : t.dishes[d].motion = .locked := congrArg LockView.motion view
        exact ⟨gone, motion, fun stops _ => (nomatch motion.symm.trans stops), last⟩
    · have here : s.dishes[d].motion = .stopping := stopping
      rw [if_pos here] at view
      rw [here]
      exact ⟨gone, (congrArg LockView.motion view).trans here, fun _ before => absurd rfl before, last⟩

end Machine
end Sys2Proof
end
